-- ==== Sys2Proof/Word.lean ====
section
/-! DEFINITION. The word types of the block (spec/00_scope.md R9, R10). -/

namespace Sys2Proof

/-- A custom register, and the value of a register access: 16 bits (R9). -/
abbrev Word := BitVec 16

/-- A 32-bit access word, one per operation (R91). -/
abbrev AccessWord := BitVec 32

/-- A 12-bit color, `R = v[11:8]`, `G = v[7:4]`, `B = v[3:0]` (R32). -/
abbrev Color := BitVec 12

/-- A 32-bit device color: alpha 31:24, blue 23:16, green 15:8, red 7:0 (R9, R63). -/
abbrev Device := BitVec 32

/-- A depth tag, laid out as R40 says. -/
abbrev Tag := BitVec 32

/-- The byte offset of a custom register: 9 bits (R60). -/
abbrev Offset := BitVec 9

end Sys2Proof
end

