-- ==== Sys2Proof/Config.lean ====
section
/-! DEFINITION. The parameters fixed for a run, the configuration that CONFIG changes, and the free
values the spec leaves open (spec/00_scope.md R8, spec/10_state.md R46). -/

namespace Sys2Proof

/-- The chip revision `CHIP` (R3). -/
inductive Chip where
  | ocs
  | ecs
deriving DecidableEq, Repr

/-- `RESET_POLICY` (R8, R265, R266). -/
inductive ResetPolicy where
  | zero
  | arbitrary
deriving DecidableEq, Repr

/-- A half-open window of pixel positions, `first ≤ p < stop` (R162). -/
structure ClipWindow where
  first : Word
  stop : Word
deriving DecidableEq, Repr

/-- The parameters that are fixed for a run (R8, R46). They stand in the state as plain data that no
step changes, so that a statement over all states holds for every value of them (log 5).
`SPRITE_CLIP`, a function of one Bool, is the pair of its two values (log 6). -/
structure Params where
  chip : Chip
  hpixels : Nat
  vpixels : Nat
  nFb : Nat
  changeCap : Nat
  clipNoDma : ClipWindow
  clipDma : ClipWindow
  sprFetchStart : Nat
  resetPolicy : ResetPolicy
deriving DecidableEq, Repr

/-- The reference values of R8. -/
def Params.reference : Params where
  chip := .ecs
  hpixels := 912
  vpixels := 313
  nFb := 2
  changeCap := 256
  clipNoDma := { first := 0, stop := 912 }
  clipDma := { first := 0, stop := 912 }
  sprFetchStart := 0
  resetPolicy := .zero

/-- `MONITOR` (R8, R189): the neutral settings, whose numbers no source gives, or settings of
brightness, contrast, saturation and palette mode, whose ranges no source gives (log 8). -/
inductive Monitor where
  | neutral
  | setting (brightness contrast saturation : Int) (palette : Nat)
deriving DecidableEq, Repr

/-- The name of a configuration function `LUT` (R8, R188). State is plain data, so the configuration
holds a name, and `Config.monitorTransform` gives the function it names (log 7). -/
abbrev LutId := Nat

/-- The configuration that CONFIG changes and RESET keeps (R46, R231). -/
structure Config where
  monitor : Monitor
  lut : LutId
  clxSS : Bool
  clxSP : Bool
  clxPP : Bool
  hiddenPlanes : BitVec 6
  hiddenSprites : BitVec 8
  hiddenLayers : BitVec 10
  hideOpacity : BitVec 8
deriving DecidableEq, Repr

/-- The reference values of R8. -/
def Config.reference : Config where
  monitor := .neutral
  lut := 0
  clxSS := true
  clxSP := true
  clxPP := true
  hiddenPlanes := 0
  hiddenSprites := 0
  hiddenLayers := 0
  hideOpacity := 128

/-- The operand `cfg` of CONFIG: a record in which each field is optional (R231). -/
structure ConfigUpdate where
  monitor : Option Monitor := none
  lut : Option LutId := none
  clxSS : Option Bool := none
  clxSP : Option Bool := none
  clxPP : Option Bool := none
  hiddenPlanes : Option (BitVec 6) := none
  hiddenSprites : Option (BitVec 8) := none
  hiddenLayers : Option (BitVec 10) := none
  hideOpacity : Option (BitVec 8) := none
deriving DecidableEq, Repr

/-- The items of the state that `RESET_POLICY = arbitrary` leaves open, the ones marked "(R)"
(R266). -/
inductive ResetItem where
  | bplcon0 | bplcon1 | clxcon
  | bpldat (i : Fin 6) | pipe (i : Fin 6)
  | ctrlBplcon0 | ctrlBplcon2
  | diwstrt | diwstop | bplcon3 | diwBplcon0 | hFlop
  | color (n : Fin 32) | colBplcon0
  | sprPos (x : Fin 8) | sprCtl (x : Fin 8) | sprDataA (x : Fin 8) | sprDataB (x : Fin 8)
  | sprArmed (x : Fin 8)
  | cell (buffer row column : Nat)
deriving DecidableEq, Repr

/-- FREE VALUE (log 9): the 16 bits that the `n`-th undecoded read returns, "any value" (R96). -/
opaque Config.freeRead : Nat → Word

/-- FREE VALUE (log 10): the bits that the `n`-th reset under `RESET_POLICY = arbitrary` leaves in an
item, "any value of its width" (R266); an item takes as many low bits as it has. The items are drawn
independently, the three replayed copies of `BPLCON0` among them (log 21). -/
opaque Config.resetBits : Nat → ResetItem → BitVec 64

/-- FREE VALUE (log 7): the color a configuration function gives at monitor settings that are not
neutral (R188, R189); its low 24 bits are used. -/
opaque Config.monitorTransform : LutId → Monitor → Color → Device

/-- FREE VALUE (log 18): `pal(i)` for an index above 64, which R187 does not give. -/
opaque Config.palUnstated : BitVec 7 → Device

end Sys2Proof
end

