-- ==== Sys2Proof/Syntax.lean ====
section
/-! DEFINITION. The operations: one constructor for each row of spec/opcode_table.json, and the
form in which the host issues one (spec/30_encoding.md R90 to R93). -/

namespace Sys2Proof

/-- One operation as the host issues it: the access word and the operands that are not part of the
word (R90). An operation that takes no `px` or no `cfg` does not look at it (log 2). -/
structure HostOp where
  word : AccessWord
  px : Int := 0
  cfg : ConfigUpdate := {}
deriving DecidableEq, Repr

/-- The operations of the block. A write carries the value `v` and the trigger pixel `px`, a signed
integer (R90). -/
inductive Instr where
  /-- `W_CLXCON` (R165). -/
  | wClxcon (v : Word) (px : Int)
  /-- `W_DIWSTRT` (R191). -/
  | wDiwstrt (v : Word) (px : Int)
  /-- `W_DIWSTOP` (R192). -/
  | wDiwstop (v : Word) (px : Int)
  /-- `W_BPLCON0` (R112). -/
  | wBplcon0 (v : Word) (px : Int)
  /-- `W_BPLCON1` (R113). -/
  | wBplcon1 (v : Word) (px : Int)
  /-- `W_BPLCON2` (R139). -/
  | wBplcon2 (v : Word) (px : Int)
  /-- `W_BPLCON3` (R193). -/
  | wBplcon3 (v : Word) (px : Int)
  /-- `W_BPL1DAT` (R115). -/
  | wBpl1dat (v : Word) (px : Int)
  /-- `W_BPL2DAT` (R114). -/
  | wBpl2dat (v : Word) (px : Int)
  /-- `W_BPL3DAT` (R114). -/
  | wBpl3dat (v : Word) (px : Int)
  /-- `W_BPL4DAT` (R114). -/
  | wBpl4dat (v : Word) (px : Int)
  /-- `W_BPL5DAT` (R114). -/
  | wBpl5dat (v : Word) (px : Int)
  /-- `W_BPL6DAT` (R114). -/
  | wBpl6dat (v : Word) (px : Int)
  /-- `W_SPR0POS` (R151). -/
  | wSpr0pos (v : Word) (px : Int)
  /-- `W_SPR0CTL` (R152). -/
  | wSpr0ctl (v : Word) (px : Int)
  /-- `W_SPR0DATA` (R153). -/
  | wSpr0data (v : Word) (px : Int)
  /-- `W_SPR0DATB` (R154). -/
  | wSpr0datb (v : Word) (px : Int)
  /-- `W_SPR1POS` (R151). -/
  | wSpr1pos (v : Word) (px : Int)
  /-- `W_SPR1CTL` (R152). -/
  | wSpr1ctl (v : Word) (px : Int)
  /-- `W_SPR1DATA` (R153). -/
  | wSpr1data (v : Word) (px : Int)
  /-- `W_SPR1DATB` (R154). -/
  | wSpr1datb (v : Word) (px : Int)
  /-- `W_SPR2POS` (R151). -/
  | wSpr2pos (v : Word) (px : Int)
  /-- `W_SPR2CTL` (R152). -/
  | wSpr2ctl (v : Word) (px : Int)
  /-- `W_SPR2DATA` (R153). -/
  | wSpr2data (v : Word) (px : Int)
  /-- `W_SPR2DATB` (R154). -/
  | wSpr2datb (v : Word) (px : Int)
  /-- `W_SPR3POS` (R151). -/
  | wSpr3pos (v : Word) (px : Int)
  /-- `W_SPR3CTL` (R152). -/
  | wSpr3ctl (v : Word) (px : Int)
  /-- `W_SPR3DATA` (R153). -/
  | wSpr3data (v : Word) (px : Int)
  /-- `W_SPR3DATB` (R154). -/
  | wSpr3datb (v : Word) (px : Int)
  /-- `W_SPR4POS` (R151). -/
  | wSpr4pos (v : Word) (px : Int)
  /-- `W_SPR4CTL` (R152). -/
  | wSpr4ctl (v : Word) (px : Int)
  /-- `W_SPR4DATA` (R153). -/
  | wSpr4data (v : Word) (px : Int)
  /-- `W_SPR4DATB` (R154). -/
  | wSpr4datb (v : Word) (px : Int)
  /-- `W_SPR5POS` (R151). -/
  | wSpr5pos (v : Word) (px : Int)
  /-- `W_SPR5CTL` (R152). -/
  | wSpr5ctl (v : Word) (px : Int)
  /-- `W_SPR5DATA` (R153). -/
  | wSpr5data (v : Word) (px : Int)
  /-- `W_SPR5DATB` (R154). -/
  | wSpr5datb (v : Word) (px : Int)
  /-- `W_SPR6POS` (R151). -/
  | wSpr6pos (v : Word) (px : Int)
  /-- `W_SPR6CTL` (R152). -/
  | wSpr6ctl (v : Word) (px : Int)
  /-- `W_SPR6DATA` (R153). -/
  | wSpr6data (v : Word) (px : Int)
  /-- `W_SPR6DATB` (R154). -/
  | wSpr6datb (v : Word) (px : Int)
  /-- `W_SPR7POS` (R151). -/
  | wSpr7pos (v : Word) (px : Int)
  /-- `W_SPR7CTL` (R152). -/
  | wSpr7ctl (v : Word) (px : Int)
  /-- `W_SPR7DATA` (R153). -/
  | wSpr7data (v : Word) (px : Int)
  /-- `W_SPR7DATB` (R154). -/
  | wSpr7datb (v : Word) (px : Int)
  /-- `W_COLOR00` (R185). -/
  | wColor00 (v : Word) (px : Int)
  /-- `W_COLOR01` (R185). -/
  | wColor01 (v : Word) (px : Int)
  /-- `W_COLOR02` (R185). -/
  | wColor02 (v : Word) (px : Int)
  /-- `W_COLOR03` (R185). -/
  | wColor03 (v : Word) (px : Int)
  /-- `W_COLOR04` (R185). -/
  | wColor04 (v : Word) (px : Int)
  /-- `W_COLOR05` (R185). -/
  | wColor05 (v : Word) (px : Int)
  /-- `W_COLOR06` (R185). -/
  | wColor06 (v : Word) (px : Int)
  /-- `W_COLOR07` (R185). -/
  | wColor07 (v : Word) (px : Int)
  /-- `W_COLOR08` (R185). -/
  | wColor08 (v : Word) (px : Int)
  /-- `W_COLOR09` (R185). -/
  | wColor09 (v : Word) (px : Int)
  /-- `W_COLOR10` (R185). -/
  | wColor10 (v : Word) (px : Int)
  /-- `W_COLOR11` (R185). -/
  | wColor11 (v : Word) (px : Int)
  /-- `W_COLOR12` (R185). -/
  | wColor12 (v : Word) (px : Int)
  /-- `W_COLOR13` (R185). -/
  | wColor13 (v : Word) (px : Int)
  /-- `W_COLOR14` (R185). -/
  | wColor14 (v : Word) (px : Int)
  /-- `W_COLOR15` (R185). -/
  | wColor15 (v : Word) (px : Int)
  /-- `W_COLOR16` (R185). -/
  | wColor16 (v : Word) (px : Int)
  /-- `W_COLOR17` (R185). -/
  | wColor17 (v : Word) (px : Int)
  /-- `W_COLOR18` (R185). -/
  | wColor18 (v : Word) (px : Int)
  /-- `W_COLOR19` (R185). -/
  | wColor19 (v : Word) (px : Int)
  /-- `W_COLOR20` (R185). -/
  | wColor20 (v : Word) (px : Int)
  /-- `W_COLOR21` (R185). -/
  | wColor21 (v : Word) (px : Int)
  /-- `W_COLOR22` (R185). -/
  | wColor22 (v : Word) (px : Int)
  /-- `W_COLOR23` (R185). -/
  | wColor23 (v : Word) (px : Int)
  /-- `W_COLOR24` (R185). -/
  | wColor24 (v : Word) (px : Int)
  /-- `W_COLOR25` (R185). -/
  | wColor25 (v : Word) (px : Int)
  /-- `W_COLOR26` (R185). -/
  | wColor26 (v : Word) (px : Int)
  /-- `W_COLOR27` (R185). -/
  | wColor27 (v : Word) (px : Int)
  /-- `W_COLOR28` (R185). -/
  | wColor28 (v : Word) (px : Int)
  /-- `W_COLOR29` (R185). -/
  | wColor29 (v : Word) (px : Int)
  /-- `W_COLOR30` (R185). -/
  | wColor30 (v : Word) (px : Int)
  /-- `W_COLOR31` (R185). -/
  | wColor31 (v : Word) (px : Int)
  /-- `W_CLXDAT` (R97). -/
  | wClxdat (v : Word) (px : Int)
  /-- `R_CLXDAT` (R166). -/
  | rClxdat
  /-- `W_other` (R96). -/
  | wOther (addr : Offset) (v : Word) (px : Int)
  /-- `R_other` (R96). -/
  | rOther (addr : Offset)
  /-- `RESET` (R225). -/
  | reset
  /-- `BOF` (R226). -/
  | bof (lof : Bool)
  /-- `BOL` (R227). -/
  | bol (vpos : Word) (vFlop bplDmaLine : Bool)
  /-- `EOL` (R228). -/
  | eol (vpos : Word)
  /-- `EOF` (R229). -/
  | eof
  /-- `STABLE` (R230). -/
  | stable (offset : Word)
  /-- `SPREN` (R155). -/
  | spren (n : BitVec 3) (on : Bool) (px : Int)
  /-- `CONFIG` (R231). -/
  | config (cfg : ConfigUpdate)
deriving DecidableEq, Repr

/-- Why the host is told "Refused" (R95, R230, R250). -/
inductive RefuseReason where
  /-- Bits 15:11 of the access word are not 0 (R95). -/
  | reservedBits
  /-- A register access at an odd offset (R64, R95). -/
  | oddOffset
  /-- Bits 9:6 of an event word are not 0 (R95). -/
  | reservedEventBits
  /-- An event code of 8 to 15 (R92, R95). -/
  | reservedEvent
  /-- A field the event does not use is not 0 (R92, R95). -/
  | unusedField
  /-- STABLE names no buffer that a frame has completed (R230). -/
  | noStableBuffer
deriving DecidableEq, Repr

end Sys2Proof
end

