-- ==== Sys2Proof/WellFormed.lean ====
section
/-! DEFINITION. Which terms of `Instr` stand for an operation of the block. The types of the fields
check every range but one: the rows `W_other` and `R_other` cover the even offsets that no other row
matches (spec/30_encoding.md R93, R96). -/

namespace Sys2Proof

/-- The offsets at which R93 decodes a write to something other than `W_other`. -/
def writeOffsetDecoded (a : Offset) : Bool :=
  let n := a.toNat
  n == 0x00E || n == 0x08E || n == 0x090 || n == 0x098 ||
  n == 0x100 || n == 0x102 || n == 0x104 || n == 0x106 ||
  n == 0x110 || n == 0x112 || n == 0x114 || n == 0x116 || n == 0x118 || n == 0x11A ||
  (0x140 ≤ n && n < 0x1C0 && n % 2 == 0)

/-- The well-formed operations. -/
def Instr.wellFormed : Instr → Bool
  | .wOther addr _ _ => addr.toNat % 2 == 0 && !writeOffsetDecoded addr
  | .rOther addr => addr.toNat % 2 == 0 && addr.toNat != 0x00E
  | .wClxcon _ _ | .wDiwstrt _ _ | .wDiwstop _ _ | .wBplcon0 _ _ | .wBplcon1 _ _
  | .wBplcon2 _ _ | .wBplcon3 _ _ | .wBpl1dat _ _ | .wBpl2dat _ _ | .wBpl3dat _ _
  | .wBpl4dat _ _ | .wBpl5dat _ _ | .wBpl6dat _ _ | .wSpr0pos _ _ | .wSpr0ctl _ _
  | .wSpr0data _ _ | .wSpr0datb _ _ | .wSpr1pos _ _ | .wSpr1ctl _ _ | .wSpr1data _ _
  | .wSpr1datb _ _ | .wSpr2pos _ _ | .wSpr2ctl _ _ | .wSpr2data _ _ | .wSpr2datb _ _
  | .wSpr3pos _ _ | .wSpr3ctl _ _ | .wSpr3data _ _ | .wSpr3datb _ _ | .wSpr4pos _ _
  | .wSpr4ctl _ _ | .wSpr4data _ _ | .wSpr4datb _ _ | .wSpr5pos _ _ | .wSpr5ctl _ _
  | .wSpr5data _ _ | .wSpr5datb _ _ | .wSpr6pos _ _ | .wSpr6ctl _ _ | .wSpr6data _ _
  | .wSpr6datb _ _ | .wSpr7pos _ _ | .wSpr7ctl _ _ | .wSpr7data _ _ | .wSpr7datb _ _
  | .wColor00 _ _ | .wColor01 _ _ | .wColor02 _ _ | .wColor03 _ _ | .wColor04 _ _
  | .wColor05 _ _ | .wColor06 _ _ | .wColor07 _ _ | .wColor08 _ _ | .wColor09 _ _
  | .wColor10 _ _ | .wColor11 _ _ | .wColor12 _ _ | .wColor13 _ _ | .wColor14 _ _
  | .wColor15 _ _ | .wColor16 _ _ | .wColor17 _ _ | .wColor18 _ _ | .wColor19 _ _
  | .wColor20 _ _ | .wColor21 _ _ | .wColor22 _ _ | .wColor23 _ _ | .wColor24 _ _
  | .wColor25 _ _ | .wColor26 _ _ | .wColor27 _ _ | .wColor28 _ _ | .wColor29 _ _
  | .wColor30 _ _ | .wColor31 _ _ | .wClxdat _ _ | .rClxdat | .reset | .bof _ | .bol _ _ _
  | .eol _ | .eof | .stable _ | .spren _ _ _ | .config _ => true

end Sys2Proof
end

