-- ==== Sys2Proof/Decode.lean ====
section
/-! DEFINITION. The decoder, total on all access words, and the encoder
(spec/30_encoding.md R90 to R97). The decoder follows the address formulas of R93 and the procedure
of R95; the encoder lists the offsets row by row, as spec/opcode_table.json does. -/

namespace Sys2Proof

/-! ## Fields of the access word (R90) -/

/-- VALUE of format REG, ARG of format EVT: bits 31:16. -/
def valueField (w : AccessWord) : Word := w.extractLsb' 16 16

/-- Bits 15:11, which must be 0 in both formats. -/
def reservedField (w : AccessWord) : BitVec 5 := w.extractLsb' 11 5

/-- E, bit 10: 0 for format REG, 1 for format EVT. -/
def formatBit (w : AccessWord) : Bool := w.getLsbD 10

/-- W, bit 9 of format REG: 1 for a write. -/
def writeBit (w : AccessWord) : Bool := w.getLsbD 9

/-- ADDR, bits 8:0 of format REG. -/
def addrField (w : AccessWord) : Offset := w.extractLsb' 0 9

/-- Bits 9:6 of format EVT, which must be 0. -/
def eventReservedField (w : AccessWord) : BitVec 4 := w.extractLsb' 6 4

/-- FB, bit 5 of format EVT. -/
def flagB (w : AccessWord) : Bool := w.getLsbD 5

/-- FA, bit 4 of format EVT. -/
def flagA (w : AccessWord) : Bool := w.getLsbD 4

/-- EV, bits 3:0 of format EVT. -/
def eventField (w : AccessWord) : BitVec 4 := w.extractLsb' 0 4

/-! ## The numbered rows of the register map (R93) -/

/-- `W BPLkDAT` for plane index `i = k - 1`. -/
def bpldatWrite (i : Fin 6) (v : Word) (px : Int) : Instr :=
  match i.val with
  | 0 => .wBpl1dat v px
  | 1 => .wBpl2dat v px
  | 2 => .wBpl3dat v px
  | 3 => .wBpl4dat v px
  | 4 => .wBpl5dat v px
  | _ => .wBpl6dat v px

/-- `W SPRxPOS`. -/
def sprPosWrite (x : Fin 8) (v : Word) (px : Int) : Instr :=
  match x.val with
  | 0 => .wSpr0pos v px
  | 1 => .wSpr1pos v px
  | 2 => .wSpr2pos v px
  | 3 => .wSpr3pos v px
  | 4 => .wSpr4pos v px
  | 5 => .wSpr5pos v px
  | 6 => .wSpr6pos v px
  | _ => .wSpr7pos v px

/-- `W SPRxCTL`. -/
def sprCtlWrite (x : Fin 8) (v : Word) (px : Int) : Instr :=
  match x.val with
  | 0 => .wSpr0ctl v px
  | 1 => .wSpr1ctl v px
  | 2 => .wSpr2ctl v px
  | 3 => .wSpr3ctl v px
  | 4 => .wSpr4ctl v px
  | 5 => .wSpr5ctl v px
  | 6 => .wSpr6ctl v px
  | _ => .wSpr7ctl v px

/-- `W SPRxDATA`. -/
def sprDataWrite (x : Fin 8) (v : Word) (px : Int) : Instr :=
  match x.val with
  | 0 => .wSpr0data v px
  | 1 => .wSpr1data v px
  | 2 => .wSpr2data v px
  | 3 => .wSpr3data v px
  | 4 => .wSpr4data v px
  | 5 => .wSpr5data v px
  | 6 => .wSpr6data v px
  | _ => .wSpr7data v px

/-- `W SPRxDATB`. -/
def sprDatbWrite (x : Fin 8) (v : Word) (px : Int) : Instr :=
  match x.val with
  | 0 => .wSpr0datb v px
  | 1 => .wSpr1datb v px
  | 2 => .wSpr2datb v px
  | 3 => .wSpr3datb v px
  | 4 => .wSpr4datb v px
  | 5 => .wSpr5datb v px
  | 6 => .wSpr6datb v px
  | _ => .wSpr7datb v px

/-- `W COLORnn`. -/
def colorWrite (n : Fin 32) (v : Word) (px : Int) : Instr :=
  match n.val with
  | 0 => .wColor00 v px
  | 1 => .wColor01 v px
  | 2 => .wColor02 v px
  | 3 => .wColor03 v px
  | 4 => .wColor04 v px
  | 5 => .wColor05 v px
  | 6 => .wColor06 v px
  | 7 => .wColor07 v px
  | 8 => .wColor08 v px
  | 9 => .wColor09 v px
  | 10 => .wColor10 v px
  | 11 => .wColor11 v px
  | 12 => .wColor12 v px
  | 13 => .wColor13 v px
  | 14 => .wColor14 v px
  | 15 => .wColor15 v px
  | 16 => .wColor16 v px
  | 17 => .wColor17 v px
  | 18 => .wColor18 v px
  | 19 => .wColor19 v px
  | 20 => .wColor20 v px
  | 21 => .wColor21 v px
  | 22 => .wColor22 v px
  | 23 => .wColor23 v px
  | 24 => .wColor24 v px
  | 25 => .wColor25 v px
  | 26 => .wColor26 v px
  | 27 => .wColor27 v px
  | 28 => .wColor28 v px
  | 29 => .wColor29 v px
  | 30 => .wColor30 v px
  | _ => .wColor31 v px

/-! ## The decoder (R95) -/

/-- What an access word decodes to: one operation, or `Refused` (R95). -/
inductive Decoded where
  | instr (i : Instr)
  | refused (why : RefuseReason)
deriving DecidableEq, Repr

/-- The write at offset `a` (R93, and R96 for every other offset). Under `CHIP = OCS` the row
`W BPLCON3` is still decoded; its meaning ignores the write (log 13). -/
def decodeWrite (a : Offset) (v : Word) (px : Int) : Instr :=
  let n := a.toNat
  if n = 0x00E then .wClxdat v px
  else if n = 0x08E then .wDiwstrt v px
  else if n = 0x090 then .wDiwstop v px
  else if n = 0x098 then .wClxcon v px
  else if n = 0x100 then .wBplcon0 v px
  else if n = 0x102 then .wBplcon1 v px
  else if n = 0x104 then .wBplcon2 v px
  else if n = 0x106 then .wBplcon3 v px
  else if 0x110 ≤ n ∧ n < 0x11C then bpldatWrite (Fin.ofNat 6 ((n - 0x110) / 2)) v px
  else if 0x140 ≤ n ∧ n < 0x180 then
    let x := Fin.ofNat 8 ((n - 0x140) / 8)
    match (n - 0x140) % 8 with
    | 0 => sprPosWrite x v px
    | 2 => sprCtlWrite x v px
    | 4 => sprDataWrite x v px
    | 6 => sprDatbWrite x v px
    | _ => .wOther a v px
  else if 0x180 ≤ n ∧ n < 0x1C0 then colorWrite (Fin.ofNat 32 ((n - 0x180) / 2)) v px
  else .wOther a v px

/-- The read at offset `a` (R93, R96). -/
def decodeRead (a : Offset) : Instr :=
  if a.toNat = 0x00E then .rClxdat else .rOther a

/-- The event with code `ev`, or `Refused` where it does not use a field that is not 0 (R92). -/
def decodeEvent (ev : BitVec 4) (arg : Word) (fa fb : Bool) (px : Int) (cfg : ConfigUpdate) :
    Decoded :=
  match ev.toNat with
  | 0 => if arg = 0 ∧ fa = false ∧ fb = false then .instr .reset else .refused .unusedField
  | 1 => if arg = 0 ∧ fb = false then .instr (.bof fa) else .refused .unusedField
  | 2 => .instr (.bol arg fa fb)
  | 3 => if fa = false ∧ fb = false then .instr (.eol arg) else .refused .unusedField
  | 4 => if arg = 0 ∧ fa = false ∧ fb = false then .instr .eof else .refused .unusedField
  | 5 => if fa = false ∧ fb = false then .instr (.stable arg) else .refused .unusedField
  | 6 => if arg.extractLsb' 3 13 = 0 ∧ fb = false then .instr (.spren (arg.extractLsb' 0 3) fa px)
         else .refused .unusedField
  | 7 => if arg = 0 ∧ fa = false ∧ fb = false then .instr (.config cfg) else .refused .unusedField
  | _ => .refused .reservedEvent

/-- The decode procedure of R95, total on all access words. -/
def decode (op : HostOp) : Decoded :=
  let w := op.word
  if reservedField w ≠ 0 then .refused .reservedBits
  else if formatBit w = false then
    if (addrField w).getLsbD 0 then .refused .oddOffset
    else if writeBit w then .instr (decodeWrite (addrField w) (valueField w) op.px)
    else .instr (decodeRead (addrField w))
  else if eventReservedField w ≠ 0 then .refused .reservedEventBits
  else decodeEvent (eventField w) (valueField w) (flagA w) (flagB w) op.px op.cfg

/-! ## The encoder (R90, R92, R93) -/

/-- A word of format REG. -/
def regWord (value : Word) (w : Bool) (addr : Offset) : AccessWord :=
  value ++ (0#5 ++ (0#1 ++ (BitVec.ofBool w ++ addr)))

/-- A word of format EVT. -/
def evtWord (arg : Word) (fb fa : Bool) (ev : BitVec 4) : AccessWord :=
  arg ++ (0#5 ++ (1#1 ++ (0#4 ++ (BitVec.ofBool fb ++ (BitVec.ofBool fa ++ ev)))))

/-- A register write as the host issues it. -/
def writeOp (addr : Offset) (v : Word) (px : Int) : HostOp := { word := regWord v true addr, px := px }

/-- A register read as the host issues it; its VALUE bits are ignored, here 0. -/
def readOp (addr : Offset) : HostOp := { word := regWord 0 false addr }

/-- A control event with no operand outside the word. -/
def eventOp (arg : Word) (fb fa : Bool) (ev : BitVec 4) : HostOp := { word := evtWord arg fb fa ev }

/-- The access word of an operation, with its operands (R90, R92, R93). -/
def encode : Instr → HostOp
  | .wClxcon v px => writeOp 0x098 v px
  | .wDiwstrt v px => writeOp 0x08E v px
  | .wDiwstop v px => writeOp 0x090 v px
  | .wBplcon0 v px => writeOp 0x100 v px
  | .wBplcon1 v px => writeOp 0x102 v px
  | .wBplcon2 v px => writeOp 0x104 v px
  | .wBplcon3 v px => writeOp 0x106 v px
  | .wBpl1dat v px => writeOp 0x110 v px
  | .wBpl2dat v px => writeOp 0x112 v px
  | .wBpl3dat v px => writeOp 0x114 v px
  | .wBpl4dat v px => writeOp 0x116 v px
  | .wBpl5dat v px => writeOp 0x118 v px
  | .wBpl6dat v px => writeOp 0x11A v px
  | .wSpr0pos v px => writeOp 0x140 v px
  | .wSpr0ctl v px => writeOp 0x142 v px
  | .wSpr0data v px => writeOp 0x144 v px
  | .wSpr0datb v px => writeOp 0x146 v px
  | .wSpr1pos v px => writeOp 0x148 v px
  | .wSpr1ctl v px => writeOp 0x14A v px
  | .wSpr1data v px => writeOp 0x14C v px
  | .wSpr1datb v px => writeOp 0x14E v px
  | .wSpr2pos v px => writeOp 0x150 v px
  | .wSpr2ctl v px => writeOp 0x152 v px
  | .wSpr2data v px => writeOp 0x154 v px
  | .wSpr2datb v px => writeOp 0x156 v px
  | .wSpr3pos v px => writeOp 0x158 v px
  | .wSpr3ctl v px => writeOp 0x15A v px
  | .wSpr3data v px => writeOp 0x15C v px
  | .wSpr3datb v px => writeOp 0x15E v px
  | .wSpr4pos v px => writeOp 0x160 v px
  | .wSpr4ctl v px => writeOp 0x162 v px
  | .wSpr4data v px => writeOp 0x164 v px
  | .wSpr4datb v px => writeOp 0x166 v px
  | .wSpr5pos v px => writeOp 0x168 v px
  | .wSpr5ctl v px => writeOp 0x16A v px
  | .wSpr5data v px => writeOp 0x16C v px
  | .wSpr5datb v px => writeOp 0x16E v px
  | .wSpr6pos v px => writeOp 0x170 v px
  | .wSpr6ctl v px => writeOp 0x172 v px
  | .wSpr6data v px => writeOp 0x174 v px
  | .wSpr6datb v px => writeOp 0x176 v px
  | .wSpr7pos v px => writeOp 0x178 v px
  | .wSpr7ctl v px => writeOp 0x17A v px
  | .wSpr7data v px => writeOp 0x17C v px
  | .wSpr7datb v px => writeOp 0x17E v px
  | .wColor00 v px => writeOp 0x180 v px
  | .wColor01 v px => writeOp 0x182 v px
  | .wColor02 v px => writeOp 0x184 v px
  | .wColor03 v px => writeOp 0x186 v px
  | .wColor04 v px => writeOp 0x188 v px
  | .wColor05 v px => writeOp 0x18A v px
  | .wColor06 v px => writeOp 0x18C v px
  | .wColor07 v px => writeOp 0x18E v px
  | .wColor08 v px => writeOp 0x190 v px
  | .wColor09 v px => writeOp 0x192 v px
  | .wColor10 v px => writeOp 0x194 v px
  | .wColor11 v px => writeOp 0x196 v px
  | .wColor12 v px => writeOp 0x198 v px
  | .wColor13 v px => writeOp 0x19A v px
  | .wColor14 v px => writeOp 0x19C v px
  | .wColor15 v px => writeOp 0x19E v px
  | .wColor16 v px => writeOp 0x1A0 v px
  | .wColor17 v px => writeOp 0x1A2 v px
  | .wColor18 v px => writeOp 0x1A4 v px
  | .wColor19 v px => writeOp 0x1A6 v px
  | .wColor20 v px => writeOp 0x1A8 v px
  | .wColor21 v px => writeOp 0x1AA v px
  | .wColor22 v px => writeOp 0x1AC v px
  | .wColor23 v px => writeOp 0x1AE v px
  | .wColor24 v px => writeOp 0x1B0 v px
  | .wColor25 v px => writeOp 0x1B2 v px
  | .wColor26 v px => writeOp 0x1B4 v px
  | .wColor27 v px => writeOp 0x1B6 v px
  | .wColor28 v px => writeOp 0x1B8 v px
  | .wColor29 v px => writeOp 0x1BA v px
  | .wColor30 v px => writeOp 0x1BC v px
  | .wColor31 v px => writeOp 0x1BE v px
  | .wClxdat v px => writeOp 0x00E v px
  | .wOther addr v px => writeOp addr v px
  | .rClxdat => readOp 0x00E
  | .rOther addr => readOp addr
  | .reset => eventOp 0 false false 0
  | .bof lof => eventOp 0 false lof 1
  | .bol vpos vFlop bplDmaLine => eventOp vpos bplDmaLine vFlop 2
  | .eol vpos => eventOp vpos false false 3
  | .eof => eventOp 0 false false 4
  | .stable offset => eventOp offset false false 5
  | .spren n on px => { eventOp (0#13 ++ n) false on 6 with px := px }
  | .config cfg => { eventOp 0 false false 7 with cfg := cfg }

/-! ## One word of the opcode table -/

/-- The operation the decoder reads from an access word whose bits are `w`. An access word is one
32-bit unit with no byte order (R62, R91); `px` and `cfg` are not part of it (R90) and are here 0
and the empty record. -/
def decodeTableWord (nbits w : Nat) : Option Instr :=
  match decode { word := BitVec.ofNat 32 (w % 2 ^ nbits) } with
  | .instr i => some i
  | .refused _ => none

end Sys2Proof
end

