-- ==== Sys2Proof/Machine/Lut.lean ====
section
/-! DEFINITION. The device lookup table (spec/43_color_framebuffer.md R188 to R190,
spec/10_state.md R43). -/

namespace Sys2Proof.Machine

/-- `LUT_NEUTRAL` (R190): each 4-bit channel scaled by 17, laid out as R63 says. -/
def lutNeutral (c : Color) : Device :=
  let r := (c.extractLsb' 8 4).setWidth 32
  let g := (c.extractLsb' 4 4).setWidth 32
  let b := (c.extractLsb' 0 4).setWidth 32
  0xFF000000#32 ||| ((17#32 * b) <<< 16) ||| ((17#32 * g) <<< 8) ||| (17#32 * r)

/-- The function `LUT` named `f` at the settings `m` (R188): `LUT_NEUTRAL` at neutral settings, and at
other settings an open function whose results have alpha 0xFF (log 7). -/
def lutOf (f : LutId) (m : Monitor) (c : Color) : Device :=
  match m with
  | .neutral => lutNeutral c
  | .setting .. => 0xFF000000#32 ||| (Config.monitorTransform f m c &&& 0x00FFFFFF#32)

/-- The list `f i, f (i + 1), …` of `n` entries. -/
def tabulateFrom (f : Nat → Device) : Nat → Nat → List Device
  | _, 0 => []
  | i, n + 1 => f i :: tabulateFrom f (i + 1) n

theorem length_tabulateFrom (f : Nat → Device) (i n : Nat) : (tabulateFrom f i n).length = n := by
  induction n generalizing i with
  | zero => rfl
  | succ n ih => simp [tabulateFrom, ih]

/-- `lut[0..4095]`: `LUT(c)` for every color `c` (R43). -/
def lutTable (f : LutId) (m : Monitor) : Vector Device 4096 :=
  ⟨⟨tabulateFrom (fun c => lutOf f m (BitVec.ofNat 12 c)) 0 4096⟩, length_tabulateFrom _ _ _⟩

end Sys2Proof.Machine
end

