-- ==== Sys2Proof/Machine/State.lean ====
section
/-! DEFINITION. The state of the block, the reasons a step can stop, and the state after reset
(spec/10_state.md R20 to R49, spec/60_exceptions.md R245 to R250, spec/70_reset_and_hazards.md R265).
State is plain data. -/

namespace Sys2Proof.Machine

/-! ## Errors and what the host is told -/

/-- The kinds of fatal error (R246), in the order of their codes. -/
inductive FatalKind where
  | queueNotEmpty
  | queueOverflow
  | negativeTriggerPixel
  | sequenceError
  | pokeOutsideLine
  | configMidLine
deriving DecidableEq, Repr

/-- The kinds of diagnostic record (R249). -/
inductive DiagKind where
  | unusualBpu
  | priorityOutOfRange
deriving DecidableEq, Repr

/-- A diagnostic record (R248). -/
structure Diag where
  kind : DiagKind
  value : Word
deriving DecidableEq, Repr

/-- Why a step stops the machine. -/
inductive Fault where
  /-- Raised by `step` in the fatal state: the run has ended with `fatal = kind` and the block takes
  no step for any operation, RESET included (R245). Safe: the spec says that nothing happens. -/
  | runEnded (kind : FatalKind)
deriving DecidableEq, Repr

/-- Why an operation has no meaning in the model. A word or a STABLE call that the SPEC refuses is no
such refusal: the run goes on after it (R235, R250), so it is a next state with a `Response` (log 3). -/
inductive Refusal where
  /-- Raised by an arm of `exec` whose operation is not modelled. No arm does. Safe. -/
  | notModelled (mnemonic : String)
deriving DecidableEq, Repr

/-! ## Register changes (R66) -/

/-- What a sprite enable event asks for, fixed when the event arrives (R155). -/
inductive SprenMode where
  | enable
  | disableNow
  | disableNextLine
deriving DecidableEq, Repr

/-- The `registerId` of a change record (R66). A sprite enable event carries its mode here and the
value 1 or 0 in the record's value (log 12). -/
inductive RegId where
  | bplcon0
  | bplcon2
  | bplcon3
  | diwstrt
  | diwstop
  | sprPos (x : Fin 8)
  | sprCtl (x : Fin 8)
  | sprData (x : Fin 8)
  | sprDatb (x : Fin 8)
  | spren (x : Fin 8) (mode : SprenMode)
  | color (n : Fin 32)
deriving DecidableEq, Repr

/-- A change record `{triggerPixel, registerId, value}` (R66). -/
structure Change where
  triggerPixel : Int
  registerId : RegId
  value : Word
deriving DecidableEq, Repr

/-- A register-change queue (R66), in the order of replay. -/
abbrev ChangeQueue := List Change

/-! ## Registers, pipeline and replay states -/

/-- The custom registers that act at the write (R23). -/
@[ext]
structure Regs where
  bplcon0 : Word
  bplcon1 : Word
  clxcon : Word
deriving DecidableEq, Repr

/-- The translator's replay state (R37). -/
@[ext]
structure Ctrl where
  bplcon0 : Word
  bplcon2 : Word
deriving DecidableEq, Repr

/-- The border fill's replay state (R37). -/
@[ext]
structure Diw where
  diwstrt : Word
  diwstop : Word
  bplcon3 : Word
  bplcon0 : Word
  hFlop : Bool
deriving DecidableEq, Repr

/-- The colorizer's replay state (R37). -/
@[ext]
structure Col where
  color : Vector Color 32
  bplcon0 : Word
deriving DecidableEq, Repr

/-- A sprite unit (R38). -/
@[ext]
structure Sprite where
  pos : Word
  ctl : Word
  dataA : Word
  dataB : Word
  shiftA : Word
  shiftB : Word
  half : Bool
  armed : Bool
  enabled : Bool
  pendingDisable : Bool
deriving DecidableEq, Repr

/-- A sprite unit after reset (R38). -/
def Sprite.reset : Sprite where
  pos := 0
  ctl := 0
  dataA := 0
  dataB := 0
  shiftA := 0
  shiftB := 0
  half := false
  armed := false
  enabled := true
  pendingDisable := false

/-! ## Buffers -/

/-- The five scanline pixel buffers, `HPIXELS` entries each (R39). -/
@[ext]
structure LineBufs where
  rawBits : List (BitVec 6)
  borderFlag : List (BitVec 8)
  colorIndex : List (BitVec 6)
  multiplexedIndex : List (BitVec 7)
  depthTag : List Tag
deriving DecidableEq, Repr

/-- The scanline buffers with every entry 0 (R39, R72). -/
def LineBufs.cleared (hpixels : Nat) : LineBufs where
  rawBits := List.replicate hpixels 0
  borderFlag := List.replicate hpixels 0
  colorIndex := List.replicate hpixels 0
  multiplexedIndex := List.replicate hpixels 0
  depthTag := List.replicate hpixels 0

/-- A frame-buffer cell: the left and the right sub-pixel (R44, R205). -/
@[ext]
structure Cell where
  c0 : Device
  c1 : Device
deriving DecidableEq, Repr

/-- What a cell holds that is listed nowhere: (0, 0), the reset contents (R44). -/
def Cell.reset : Cell where
  c0 := 0
  c1 := 0

/-- One row of cells: the listed columns, strictly rising, no entry equal to `Cell.reset`. -/
abbrev Row := List (Nat × Cell)

/-- The cells of one frame buffer: the listed rows, strictly rising, none empty (log 14). -/
abbrev Memory := List (Nat × Row)

/-- A frame buffer: its cells and its tags (R44). -/
@[ext]
structure FrameBuffer where
  cells : Memory
  nr : BitVec 64
  lof : Bool
  lace : Bool
deriving DecidableEq, Repr

/-- A frame buffer after reset (R44). -/
def FrameBuffer.reset : FrameBuffer where
  cells := []
  nr := 0
  lof := false
  lace := false

/-- What the host is told by one operation (R18, R230, R235). -/
inductive Response where
  /-- The 16 bits a register read returns (R96, R166). -/
  | value (v : Word)
  /-- The snapshot of a stable buffer that STABLE returns (R84, R230). -/
  | frame (f : FrameBuffer)
  /-- The word, or the STABLE call, was refused (R95, R230, R250). -/
  | refused (why : RefuseReason)
deriving DecidableEq, Repr

/-! ## The state -/

/-- The state of the block (R20). The last three fields are the model's own. -/
@[ext]
structure State where
  /-- The parameters fixed for a run (R8, R46). -/
  par : Params
  /-- The configuration (R46). -/
  config : Config
  /-- `reg.BPLCON0`, `reg.BPLCON1`, `reg.CLXCON` (R23). -/
  reg : Regs
  /-- The 15 held bits of `CLXDAT` (R34). -/
  clxdat : BitVec 15
  /-- `BPL1DAT`..`BPL6DAT` (R28, R36). -/
  bpldat : Vector Word 6
  /-- The pipeline stage (R36). -/
  pipe : Vector Word 6
  /-- The parallel-to-serial shift registers (R36). -/
  shift : Vector Word 6
  /-- Set by the pipeline load, cleared when the odd group's shift registers load (R36). -/
  armedOdd : Bool
  /-- Set by the pipeline load, cleared when the even group's shift registers load (R36). -/
  armedEven : Bool
  /-- The translator's replay state (R37). -/
  ctrl : Ctrl
  /-- The eight sprite units (R38). -/
  spr : Vector Sprite 8
  /-- The border fill's replay state (R37). -/
  diw : Diw
  /-- The colorizer's replay state (R37). -/
  col : Col
  /-- `Q_CTRL` (R66). -/
  qCtrl : ChangeQueue
  /-- `Q_SPR[0..3]` (R66). -/
  qSpr : Vector ChangeQueue 4
  /-- `Q_DIW` (R66). -/
  qDiw : ChangeQueue
  /-- `Q_COL` (R66). -/
  qCol : ChangeQueue
  /-- The scanline pixel buffers (R39). -/
  buf : LineBufs
  /-- The device lookup table (R43). -/
  lut : Vector Device 4096
  /-- The frame buffers `fb[0..N_FB-1]` (R44). -/
  fb : List FrameBuffer
  /-- The write target's index (R44, R74). -/
  writeIndex : Nat
  /-- Frames completed since reset (R44, R256). -/
  frameCounter : BitVec 64
  /-- Between `beginOfFrame` and `endOfFrame` (R45). -/
  frameActive : Bool
  /-- Between `beginOfLine` and `endOfLine` (R45). -/
  lineActive : Bool
  /-- The vertical position given to the current `beginOfLine` (R45). -/
  curVpos : Word
  /-- The long-frame flag given to the current `beginOfFrame` (R45). -/
  curLof : Bool
  /-- The line is inside the vertical display window (R45). -/
  vFlop : Bool
  /-- Bitplane DMA is active in this line (R45). -/
  bplDmaLine : Bool
  /-- The first position of this line's sprite window (R45). -/
  clipBegin : Word
  /-- The first position past this line's sprite window (R45). -/
  clipEnd : Word
  /-- The fatal state (R47, R245). -/
  fatal : Option FatalKind
  /-- The diagnostic log, oldest record first (R47, R248). -/
  diagLog : List Diag
  /-- MODEL: the host's operations not yet performed, next one first (log 1). -/
  input : List HostOp
  /-- MODEL: what the host has been told, oldest first (log 3). -/
  responses : List Response
  /-- MODEL: how many free values have been drawn (log 9, log 10). -/
  freeCount : Nat
deriving DecidableEq, Repr

/-- The state after reset under the reference parameters and the reference configuration, with
`RESET_POLICY = zero` (R8, R265). No operation is pending (log 1). -/
def State.reset : State where
  par := Params.reference
  config := Config.reference
  reg := { bplcon0 := 0, bplcon1 := 0, clxcon := 0 }
  clxdat := 0
  bpldat := Vector.replicate 6 0
  pipe := Vector.replicate 6 0
  shift := Vector.replicate 6 0
  armedOdd := false
  armedEven := false
  ctrl := { bplcon0 := 0, bplcon2 := 0 }
  spr := Vector.replicate 8 Sprite.reset
  diw := { diwstrt := 0, diwstop := 0, bplcon3 := 0, bplcon0 := 0, hFlop := false }
  col := { color := Vector.replicate 32 0, bplcon0 := 0 }
  qCtrl := []
  qSpr := Vector.replicate 4 []
  qDiw := []
  qCol := []
  buf := LineBufs.cleared Params.reference.hpixels
  lut := lutTable Config.reference.lut Config.reference.monitor
  fb := List.replicate Params.reference.nFb FrameBuffer.reset
  writeIndex := 0
  frameCounter := 0
  frameActive := false
  lineActive := false
  curVpos := 0
  curLof := false
  vFlop := false
  bplDmaLine := false
  clipBegin := 0
  clipEnd := 0
  fatal := none
  diagLog := []
  input := []
  responses := []
  freeCount := 0

end Sys2Proof.Machine
end

