-- ==== Sys2Proof/Machine/Operands.lean ====
section
/-! DEFINITION. Every operand the spec assembles from register fields: resolution class, plane count,
scrolls, priority codes, sprite start, display window, colors, collision masks
(spec/30_encoding.md R94, spec/40_bitplane_pipeline.md R110 and R111). -/

namespace Sys2Proof.Machine

/-! ## BPLCON0 (R24) -/

/-- The resolution classes (R13). -/
inductive Resolution where
  | lores
  | hires
  | shres
deriving DecidableEq, Repr

/-- `Res(v)` (R111): SHRES exists on ECS only and wins over HIRES. -/
def resolution (chip : Chip) (v : Word) : Resolution :=
  if chip = .ecs ∧ v.getLsbD 6 = true then .shres
  else if v.getLsbD 15 = true then .hires
  else .lores

/-- `BPU = BPLCON0[14:12]` (R94). -/
def bpu (v : Word) : Nat := (v.extractLsb' 12 3).toNat

/-- `EffBPU(v)`, the clamped number of planes (R110). -/
def effBpu (chip : Chip) (v : Word) : Nat :=
  match resolution chip v with
  | .lores => if bpu v = 7 then 6 else bpu v
  | .hires => if bpu v ≥ 5 then 0 else bpu v
  | .shres => if bpu v ≥ 3 then 0 else bpu v

/-- `Unusual(v)` (R110). -/
def unusualBpu (chip : Chip) (v : Word) : Bool := effBpu chip v != bpu v

/-- HOMOD, `BPLCON0[11]` (R24). -/
def homod (v : Word) : Bool := v.getLsbD 11

/-- DBLPF, `BPLCON0[10]` (R24). -/
def dblpf (v : Word) : Bool := v.getLsbD 10

/-- LACE, `BPLCON0[2]` (R24). -/
def lace (v : Word) : Bool := v.getLsbD 2

/-- ECSENA, `BPLCON0[0]` (R24). -/
def ecsena (v : Word) : Bool := v.getLsbD 0

/-! ## BPLCON1 (R25) -/

/-- The scroll of the odd planes in positions, `2 · BPLCON1[3:0]` (R94). -/
def scrollOdd (v : Word) : Nat := 2 * (v.extractLsb' 0 4).toNat

/-- The scroll of the even planes in positions, `2 · BPLCON1[7:4]` (R94). -/
def scrollEven (v : Word) : Nat := 2 * (v.extractLsb' 4 4).toNat

/-! ## BPLCON2 (R26, R130) -/

/-- `PF1P = BPLCON2[2:0]`. -/
def pf1p (v : Word) : BitVec 3 := v.extractLsb' 0 3

/-- `PF2P = BPLCON2[5:3]`. -/
def pf2p (v : Word) : BitVec 3 := v.extractLsb' 3 3

/-- `PF2PRI = BPLCON2[6]`. -/
def pf2pri (v : Word) : Bool := v.getLsbD 6

/-- `Legal(c)`: a priority code of at most 4 (R130). -/
def legalPriority (c : BitVec 3) : Bool := c.toNat ≤ 4

/-! ## BPLCON3 (R27) -/

/-- BRDRBLNK, `BPLCON3[5]`. -/
def brdrblnk (v : Word) : Bool := v.getLsbD 5

/-! ## Sprite registers (R29, R30, R150) -/

/-- `hStart = (pos[7:0] << 1) | ctl[0]`, 9 bits (R30). -/
def hStart (pos ctl : Word) : BitVec 9 := pos.extractLsb' 0 8 ++ ctl.extractLsb' 0 1

/-- The first pixel position of a sprite, `2 · hStart` (R150). -/
def spriteStart (u : Sprite) : Nat := 2 * (hStart u.pos u.ctl).toNat

/-- The attach bit ATT, `ctl[7]` (R30). -/
def attachBit (ctl : Word) : Bool := ctl.getLsbD 7

/-- `sel(x)`, the 2-bit color selector a sprite outputs now: bit 1 from `shiftB`, bit 0 from `shiftA`
(R150). -/
def selector (u : Sprite) : BitVec 2 := BitVec.ofBool (u.shiftB.getLsbD 15) ++ BitVec.ofBool (u.shiftA.getLsbD 15)

/-! ## Display window (R35) -/

/-- The position at which the window opens, `2 · DIWSTRT[7:0]` (R94). -/
def windowStart (v : Word) : Nat := 2 * (v.extractLsb' 0 8).toNat

/-- The position at which the window closes, `2 · (0x100 | DIWSTOP[7:0])` (R94). -/
def windowStop (v : Word) : Nat := 2 * (0x100 + (v.extractLsb' 0 8).toNat)

/-! ## Colors (R32) -/

/-- The 12 bits of a `COLORnn` value that are kept (R32, R185). -/
def colorOfWord (v : Word) : Color := v.extractLsb' 0 12

/-- `HB(c) = (c >> 1) & 0x777` (R186). -/
def halfBright (c : Color) : Color := (c >>> 1) &&& 0x777#12

/-! ## CLXCON (R33) -/

/-- The collision enable mask `CLXCON[11:6]` (R94). -/
def clxEnable (v : Word) : BitVec 6 := v.extractLsb' 6 6

/-- The collision match value `CLXCON[5:0]` (R94). -/
def clxMatch (v : Word) : BitVec 6 := v.extractLsb' 0 6

/-- `ENSP(2k+1) = CLXCON[12 + k]` (R94). -/
def clxOddSprite (v : Word) (k : Fin 4) : Bool := v.getLsbD (12 + k.val)

/-! ## Sprite numbers -/

/-- The even sprite `2k` of pair `k` (R16). -/
def evenSprite (k : Fin 4) : Fin 8 := ⟨2 * k.val, by omega⟩

/-- The odd sprite `2k + 1` of pair `k` (R16). -/
def oddSprite (k : Fin 4) : Fin 8 := ⟨2 * k.val + 1, by omega⟩

/-- The pair `x div 2` of sprite `x`, which names its queue (R66). -/
def pairOf (x : Fin 8) : Fin 4 := ⟨x.val / 2, by omega⟩

end Sys2Proof.Machine
end

