-- ==== Sys2Proof/Machine/Flags.lean ====
section
/-! DEFINITION. The flag bits of the block: the bits of a depth tag (spec/10_state.md R40 to R42) and
the bits of `CLXDAT` with the tests that set them (R34, spec/42_sprites_collision.md R168 to R172). -/

namespace Sys2Proof.Machine

/-! ## Depth tags (R40, R41) -/

/-- PF1_SOLID, bit 0 (R40). -/
def pf1Solid : Tag := 0x00000001#32
/-- PF2_SOLID, bit 1 (R40). -/
def pf2Solid : Tag := 0x00000002#32
/-- DPF, bit 2: drawn in dual-playfield mode (R40). -/
def dpfFlag : Tag := 0x00000004#32
/-- SPR_UNDER, bit 3 (R40). -/
def sprUnder : Tag := 0x00000008#32
/-- VIS_PF2, bit 4 (R40). -/
def visPf2 : Tag := 0x00000010#32
/-- SHRES_PIX, bit 5 (R40). -/
def shresPix : Tag := 0x00000020#32
/-- DEPTH_MASK (R41). -/
def depthMask : Tag := 0x1FFF0000#32

/-- SPR_SOLID of sprite `x`, bit 8 + x (R40). -/
def sprSolid (x : Fin 8) : Tag := 1#32 <<< (8 + x.val)

/-- `Z_Pc`, the depth of a playfield with priority code `c` (R41); a code of 5, 6 or 7 has no depth,
0 (R130). -/
def zPf (c : BitVec 3) : Tag :=
  match c.toNat with
  | 0 => 0x10000000#32
  | 1 => 0x02000000#32
  | 2 => 0x00400000#32
  | 3 => 0x00080000#32
  | 4 => 0x00010000#32
  | _ => 0

/-- `Z_SPn`, the depth of sprite `n` (R41). -/
def zSp (n : Fin 8) : Tag :=
  match n.val with
  | 0 => 0x08000000#32
  | 1 => 0x04000000#32
  | 2 => 0x01000000#32
  | 3 => 0x00800000#32
  | 4 => 0x00200000#32
  | 5 => 0x00100000#32
  | 6 => 0x00040000#32
  | _ => 0x00020000#32

/-- The DEPTH field of a tag, in place (R40). -/
def depthOf (t : Tag) : Tag := t &&& depthMask

/-- The sprite whose depth is `d`, if there is one (R41). -/
def spriteOfDepth (d : Tag) : Option (Fin 8) :=
  if d = zSp 0 then some 0
  else if d = zSp 1 then some 1
  else if d = zSp 2 then some 2
  else if d = zSp 3 then some 3
  else if d = zSp 4 then some 4
  else if d = zSp 5 then some 5
  else if d = zSp 6 then some 6
  else if d = zSp 7 then some 7
  else none

/-- `isSprDepth(d)` (R41). -/
def isSprDepth (d : Tag) : Bool := (spriteOfDepth d).isSome

/-- `isPfDepth(d)` (R41). -/
def isPfDepth (d : Tag) : Bool := d == zPf 0 || d == zPf 1 || d == zPf 2 || d == zPf 3 || d == zPf 4

/-- The flag bit of a tag is 1; `f` is one of the one-bit masks above. -/
def tagHas (t f : Tag) : Bool := t &&& f != 0

/-! ## Collision bits (R34) -/

/-- `clxdat[bit] <- 1` where the test succeeds; a failed test clears nothing. -/
def setClx (hit : Bool) (bit : Nat) (clx : BitVec 15) : BitVec 15 :=
  if hit then clx ||| (1#15 <<< bit) else clx

/-- The odd planes' mask of a raw entry (R117). -/
def oddPlanes : BitVec 6 := 0x15#6

/-- The even planes' mask of a raw entry (R117). -/
def evenPlanes : BitVec 6 := 0x2A#6

/-- `(r & enOdd) = mvOdd` (R167, R170). -/
def oddMatch (clxcon : Word) (r : BitVec 6) : Bool :=
  let en := clxEnable clxcon &&& oddPlanes
  r &&& en == clxMatch clxcon &&& en

/-- `(r & enEven) = mvEven` (R167, R170). -/
def evenMatch (clxcon : Word) (r : BitVec 6) : Bool :=
  let en := clxEnable clxcon &&& evenPlanes
  r &&& en == clxMatch clxcon &&& en

/-- `Group(k, p)` from the tag at p (R168). -/
def groupSolid (clxcon : Word) (tag : Tag) (k : Fin 4) : Bool :=
  tagHas tag (sprSolid (evenSprite k)) ||
    (clxOddSprite clxcon k && tagHas tag (sprSolid (oddSprite k)))

/-- `Raws(p)`: the one raw entry, or the two sub-pixels of a SHRES position (R170, R172). -/
def rawsOf (tag : Tag) (raw : BitVec 6) : List (BitVec 6) :=
  if tagHas tag shresPix then [raw &&& 0x3#6, (raw >>> 2) &&& 0x3#6] else [raw]

/-- `SpriteSprite(g)` (R169). -/
def spriteSprite (g : Fin 4 → Bool) (clx : BitVec 15) : BitVec 15 :=
  setClx (g 2 && g 3) 14 (setClx (g 1 && g 3) 13 (setClx (g 1 && g 2) 12
    (setClx (g 0 && g 3) 11 (setClx (g 0 && g 2) 10 (setClx (g 0 && g 1) 9 clx)))))

/-- The tests of one pair against one raw value: playfield 2, then playfield 1, which a non-match
against playfield 2 skips in single-playfield mode (R170). -/
def spriteRaw (clxcon : Word) (tag : Tag) (k : Fin 4) (clx : BitVec 15) (r : BitVec 6) : BitVec 15 :=
  let evenHit := evenMatch clxcon r
  let clx := setClx evenHit (5 + k.val) clx
  if evenHit || tagHas tag dpfFlag then setClx (oddMatch clxcon r) (1 + k.val) clx else clx

/-- `SpritePlayfield(g, p)` (R170). -/
def spritePlayfield (clxcon : Word) (g : Fin 4 → Bool) (tag : Tag) (raw : BitVec 6)
    (clx : BitVec 15) : BitVec 15 :=
  [0, 1, 2, 3].foldl
    (fun clx k => if g k then (rawsOf tag raw).foldl (spriteRaw clxcon tag k) clx else clx) clx

/-- Both playfields match at a position, in some raw value of it (R171). -/
def playfieldsMatch (clxcon : Word) (tag : Tag) (raw : BitVec 6) : Bool :=
  (rawsOf tag raw).any fun r => oddMatch clxcon r && evenMatch clxcon r

end Sys2Proof.Machine
end

