-- ==== Sys2Proof/Machine/Ops.lean ====
section
/-! DEFINITION. The shared operations over the state: taking a fatal error, diagnostics, responses, the
write preamble, the change queues and their replay, the scanline buffers and the frame-buffer store
(spec/20_memory.md R66 to R73, spec/44_line_frame_control.md R233, spec/60_exceptions.md). -/

namespace Sys2Proof.Machine

/-- The outcome of an operation or a step. -/
abbrev Result := Host.Outcome State Fault Refusal

/-! ## Fatal errors, diagnostics and responses -/

/-- Taking the block's only exception, `raise Fatal(kind)` (R245): `fatal <- kind` and no other effect
(R235, R252). There is no handler, no vector, no saved state and no return (R253), so nothing stands
beside it: after it `step` takes no step. -/
def State.raiseFatal (s : State) (kind : FatalKind) : State := { s with fatal := some kind }

/-- An operation whose checks come first (R235, R247): the first check that fails is raised on the
state before the operation, and otherwise the operation has its effect `t`. -/
def checked (check : Option FatalKind) (s t : State) : Result :=
  match check with
  | some kind => .next (s.raiseFatal kind)
  | none => .next t

/-- `Diag(kind, value)`: appends a record and changes nothing else (R248). -/
def State.logDiag (s : State) (kind : DiagKind) (value : Word) : State :=
  { s with diagLog := s.diagLog ++ [{ kind := kind, value := value }] }

/-- `Diag(kind, value)` where the condition holds (R120, R140). -/
def State.logDiagIf (s : State) (cond : Bool) (kind : DiagKind) (value : Word) : State :=
  if cond then s.logDiag kind value else s

/-- Telling the host the result of an operation (log 3). -/
def State.respond (s : State) (r : Response) : State := { s with responses := s.responses ++ [r] }

/-- The step's draw of a free value: the counter moves on, so that the next draw is fresh (log 9). -/
def State.drawFree (s : State) : State := { s with freeCount := s.freeCount + 1 }

/-- Taking the next operation out of the input (R235). -/
def State.popInput (s : State) : State := { s with input := s.input.tail }

/-- The write preamble `WritePre(px)` (R233). -/
def writePre (s : State) (px : Int) : Option FatalKind :=
  if s.lineActive = false then some .pokeOutsideLine
  else if px < 0 then some .negativeTriggerPixel
  else none

/-! ## Change queues (R67, R68) -/

/-- `length(Q) = CHANGE_CAP` (R67). -/
def queueFull (cap : Nat) (q : ChangeQueue) : Bool := q.length == cap

/-- The check before an insertion: some target queue has no room (R67). -/
def overflowCheck (cap : Nat) (qs : List ChangeQueue) : Option FatalKind :=
  if qs.any (queueFull cap) then some .queueOverflow else none

/-- The insertion of R67, which walks from the end of the queue past every record whose trigger pixel
exceeds the new one's: the record goes before the longest tail of such records. -/
def enqueue (c : Change) : ChangeQueue → ChangeQueue
  | [] => [c]
  | x :: q =>
    if (x :: q).all (fun y => c.triggerPixel < y.triggerPixel) then c :: x :: q
    else x :: enqueue c q

/-- `pixel(st, p)` for `n` positions from `p` on (the inner loop of R68). -/
def pixelRun {σ : Type} (pixel : σ → Nat → σ) : σ → Nat → Nat → σ
  | st, _, 0 => st
  | st, p, n + 1 => pixelRun pixel (pixel st p) (p + 1) n

/-- The run of pixels before a change, `min(c.triggerPixel, HPIXELS)` (R68). -/
def runEnd (hpixels : Nat) (c : Change) : Nat := (min c.triggerPixel hpixels).toNat

/-- `Replay` from the pixel cursor `p` on, the terminal change included (R68). -/
def replayFrom {σ : Type} (hpixels : Nat) (apply : σ → Change → σ) (pixel : σ → Nat → σ) :
    ChangeQueue → σ → Nat → σ
  | [], st, p => pixelRun pixel st p (hpixels - p)
  | c :: q, st, p =>
    let e := runEnd hpixels c
    replayFrom hpixels apply pixel q (apply (pixelRun pixel st p (e - p)) c) (max p e)

/-- `Replay(Q, st, apply, pixel)` (R68); the caller empties the queue. -/
def replay {σ : Type} (hpixels : Nat) (apply : σ → Change → σ) (pixel : σ → Nat → σ)
    (q : ChangeQueue) (st : σ) : σ :=
  replayFrom hpixels apply pixel q st 0

/-! ## Scanline buffers (R39, R72) -/

/-- The entry at position `p`. A buffer has `HPIXELS` entries; past them it reads 0 (log 15). -/
def pixelAt {w : Nat} (b : List (BitVec w)) (p : Nat) : BitVec w := b.getD p 0

/-- The entry at position `p` becomes `v`; a position past the buffer is discarded. -/
def setPixel {w : Nat} (b : List (BitVec w)) (p : Nat) (v : BitVec w) : List (BitVec w) := b.set p v

/-! ## The frame-buffer store (R73) -/

/-- The entry of a sparse list at key `k`, or `d` where it lists none. -/
def sparseGet {α : Type} (d : α) : List (Nat × α) → Nat → α
  | [], _ => d
  | (j, a) :: m, k => if k = j then a else sparseGet d m k

/-- A sparse list with the entry at key `k` made `a`, keeping the keys rising; an entry equal to `d`
is not listed. -/
def sparseSet {α : Type} [DecidableEq α] (d : α) : List (Nat × α) → Nat → α → List (Nat × α)
  | [], k, a => if a = d then [] else [(k, a)]
  | (j, b) :: m, k, a =>
    if k < j then (if a = d then (j, b) :: m else (k, a) :: (j, b) :: m)
    else if k = j then (if a = d then m else (k, a) :: m)
    else (j, b) :: sparseSet d m k a

/-- The keys rise strictly and no entry equals `d`. -/
def sparseWf {α : Type} [DecidableEq α] (d : α) (m : List (Nat × α)) : Bool :=
  decide (m.Pairwise fun x y => x.1 < y.1) && m.all fun x => decide (x.2 ≠ d)

/-- A row's cells, in canonical form. -/
def Row.wf (r : Row) : Bool := sparseWf Cell.reset r

/-- The canonical form of a frame buffer's cells: rows strictly rising, none empty, each canonical
(log 14). -/
def Memory.wf (m : Memory) : Bool := sparseWf [] m && m.all fun x => Row.wf x.2

/-- The cell at (row, column); a cell listed nowhere reads (0, 0) (R44). -/
def Memory.read (m : Memory) (row col : Nat) : Cell := sparseGet Cell.reset (sparseGet [] m row) col

/-- The cells with the one at (row, column) made `cell`. -/
def Memory.write (m : Memory) (row col : Nat) (cell : Cell) : Memory :=
  sparseSet [] m row (sparseSet Cell.reset (sparseGet [] m row) col cell)

/-- The cells that hold `f row col` for every row below `rows` and column below `cols`. -/
def Memory.tabulate (rows cols : Nat) (f : Nat → Nat → Cell) : Memory :=
  (List.range rows).foldl
    (fun m row => (List.range cols).foldl (fun m col => m.write row col (f row col)) m) []

/-- The frame buffer with index `b`; there are `N_FB` of them (log 15). -/
def bufferAt (fb : List FrameBuffer) (b : Nat) : FrameBuffer := fb.getD b FrameBuffer.reset

/-- `FBWrite(b, row, col, cell)`: a cell outside `VPIXELS` rows and `HPIXELS` columns is dropped
(R73). -/
def fbWrite (par : Params) (fb : List FrameBuffer) (b row col : Nat) (cell : Cell) :
    List FrameBuffer :=
  if row < par.vpixels ∧ col < par.hpixels then
    fb.set b { bufferAt fb b with cells := (bufferAt fb b).cells.write row col cell }
  else fb

/-- The cell that buffer `b` holds at (row, column), the model's read of the store. -/
def State.cellAt (s : State) (b row col : Nat) : Cell := (bufferAt s.fb b).cells.read row col

end Sys2Proof.Machine
end

