-- ==== Sys2Proof/Machine/Bitplane.lean ====
section
/-! DEFINITION. The bitplane registers and the draw step (spec/40_bitplane_pipeline.md). -/

namespace Sys2Proof.Machine

/-- The two plane groups (R16). -/
inductive PlaneGroup where
  | odd
  | even
deriving DecidableEq, Repr

/-- `G`, the plane indices of a group; plane number = index + 1 (R116). -/
def groupPlanes : PlaneGroup → List (Fin 6)
  | .odd => [0, 2, 4]
  | .even => [1, 3, 5]

/-- `D`, the planes of a group that are drawn: in SHRES only planes 1 and 2 (R116). -/
def drawnPlanes (res : Resolution) (g : PlaneGroup) : List (Fin 6) :=
  match res with
  | .shres => (groupPlanes g).filter fun i => i.val < 2
  | _ => groupPlanes g

/-- `SetBit(pos, j, b)` (R117, R118). -/
def setBit (hpixels : Nat) (raw : List (BitVec 6)) (pos : Int) (j : Nat) (b : Bool) :
    List (BitVec 6) :=
  if 0 ≤ pos ∧ pos < hpixels then
    setPixel raw pos.toNat
      ((pixelAt raw pos.toNat &&& ~~~(1#6 <<< j)) ||| ((BitVec.ofBool b).setWidth 6 <<< j))
  else raw

/-- What the draw step works on: the raw entries and the shift registers. -/
structure DrawState where
  raw : List (BitVec 6)
  shift : Vector Word 6
deriving DecidableEq, Repr

/-- What stays fixed during one draw step: the line width, the resolution class, the plane count, the
hide mask and the start position (R116). -/
structure DrawParams where
  hpixels : Nat
  res : Resolution
  n : Nat
  hidden : BitVec 6
  start : Int
deriving DecidableEq, Repr

/-- The bit plane index `i` outputs now: 0 for a plane that is off or hidden (R116, R119). -/
def planeBit (d : DrawParams) (shift : Vector Word 6) (i : Fin 6) : Bool :=
  decide (i.val < d.n) && !d.hidden.getLsbD i.val && shift[i].getLsbD 15

/-- The `k`-th pixel of plane index `i` goes into the raw entries (R116). -/
def drawPlane (d : DrawParams) (k : Nat) (st : DrawState) (i : Fin 6) : DrawState :=
  let b := planeBit d st.shift i
  match d.res with
  | .lores =>
    { st with raw := setBit d.hpixels (setBit d.hpixels st.raw (d.start + (2 * k : Nat)) i.val b)
                       (d.start + (2 * k + 1 : Nat)) i.val b }
  | .hires => { st with raw := setBit d.hpixels st.raw (d.start + (k : Nat)) i.val b }
  | .shres =>
    { st with raw := setBit d.hpixels st.raw (d.start + (k / 2 : Nat)) (i.val + 2 * (k % 2)) b }

/-- Plane index `i` shifts by one (R116). -/
def shiftPlane (st : DrawState) (i : Fin 6) : DrawState :=
  { st with shift := st.shift.set i (st.shift[i] <<< 1) }

/-- One round of the loop of R116. -/
def drawPixel (d : DrawParams) (g : PlaneGroup) (st : DrawState) (k : Nat) : DrawState :=
  (groupPlanes g).foldl shiftPlane ((drawnPlanes d.res g).foldl (drawPlane d k) st)

/-- The 16 rounds of the loop of R116. -/
def drawSixteen (d : DrawParams) (g : PlaneGroup) (st : DrawState) : DrawState :=
  [0, 1, 2, 3, 4, 5, 6, 7, 8, 9, 10, 11, 12, 13, 14, 15].foldl (drawPixel d g) st

/-- The group's armed flag (R36). -/
def State.armedGroup (s : State) : PlaneGroup → Bool
  | .odd => s.armedOdd
  | .even => s.armedEven

/-- An armed group loads its shift registers from the pipeline stage and is disarmed (R116). -/
def State.loadGroup (s : State) (g : PlaneGroup) : State :=
  if s.armedGroup g then
    let s' := { s with shift := (groupPlanes g).foldl (fun sh (i : Fin 6) => sh.set i s.pipe[i]) s.shift }
    match g with
    | .odd => { s' with armedOdd := false }
    | .even => { s' with armedEven := false }
  else s

/-- `DrawGroup(g, start, res, n)` (R116). -/
def State.drawGroup (s : State) (g : PlaneGroup) (start : Int) (res : Resolution) (n : Nat) : State :=
  let s := s.loadGroup g
  let d : DrawParams :=
    { hpixels := s.par.hpixels, res := res, n := n, hidden := s.config.hiddenPlanes, start := start }
  let st := drawSixteen d g { raw := s.buf.rawBits, shift := s.shift }
  { s with buf := { s.buf with rawBits := st.raw }, shift := st.shift }

/-- The pipeline load: all six data registers go into the pipeline stage and both groups are armed
(R115). -/
def State.pipelineLoad (s : State) : State :=
  { s with pipe := s.bpldat, armedOdd := true, armedEven := true }

/-- The effect of a `BPL1DAT` write once its checks have passed (R115). -/
def State.loadAndDraw (s : State) (v : Word) (px : Int) : State :=
  let s := { s with bpldat := s.bpldat.set 0 v }.pipelineLoad
  let res := resolution s.par.chip s.reg.bplcon0
  let n := effBpu s.par.chip s.reg.bplcon0
  let s := s.drawGroup .odd (px + scrollOdd s.reg.bplcon1) res n
  s.drawGroup .even (px + scrollEven s.reg.bplcon1) res n

/-- `bpldat[i] <- v` after the preamble (R114). -/
def writeBpldat (i : Fin 6) (v : Word) (px : Int) (s : State) : Result :=
  checked (writePre s px) s { s with bpldat := s.bpldat.set i v }

/-- The change record of a `BPLCON0` write. -/
def bplcon0Change (v : Word) (px : Int) : Change :=
  { triggerPixel := px, registerId := .bplcon0, value := v }

/-- `W BPLCON0, v @px` (R112). -/
def execWBplcon0 (v : Word) (px : Int) (s : State) : Result :=
  let c := bplcon0Change v px
  checked ((writePre s px).or (overflowCheck s.par.changeCap [s.qCtrl, s.qDiw, s.qCol])) s
    ({ s with
        qCtrl := enqueue c s.qCtrl
        qDiw := enqueue c s.qDiw
        qCol := enqueue c s.qCol
        reg := { s.reg with bplcon0 := v } }.logDiagIf (unusualBpu s.par.chip v) .unusualBpu v)

/-- `W BPLCON1, v @px` (R113). -/
def execWBplcon1 (v : Word) (px : Int) (s : State) : Result :=
  checked (writePre s px) s { s with reg := { s.reg with bplcon1 := v } }

/-- `W BPL1DAT, v @px` (R115). -/
def execWBpl1dat (v : Word) (px : Int) (s : State) : Result :=
  checked (writePre s px) s (s.loadAndDraw v px)

/-- `W BPL2DAT, v @px` (R114). -/
def execWBpl2dat (v : Word) (px : Int) (s : State) : Result := writeBpldat 1 v px s

/-- `W BPL3DAT, v @px` (R114). -/
def execWBpl3dat (v : Word) (px : Int) (s : State) : Result := writeBpldat 2 v px s

/-- `W BPL4DAT, v @px` (R114). -/
def execWBpl4dat (v : Word) (px : Int) (s : State) : Result := writeBpldat 3 v px s

/-- `W BPL5DAT, v @px` (R114). -/
def execWBpl5dat (v : Word) (px : Int) (s : State) : Result := writeBpldat 4 v px s

/-- `W BPL6DAT, v @px` (R114). -/
def execWBpl6dat (v : Word) (px : Int) (s : State) : Result := writeBpldat 5 v px s

end Sys2Proof.Machine
end

