-- ==== Sys2Proof/Machine/Collision.lean ====
section
/-! DEFINITION. The collision detector (spec/42_sprites_collision.md R165 to R173). -/

namespace Sys2Proof.Machine

/-- The sprite tests at position `p` (R167): each kind of test only where its flag is on (R173). -/
def collidePixel (config : Config) (clxcon : Word) (buf : LineBufs) (clx : BitVec 15) (p : Nat) :
    BitVec 15 :=
  let tag := pixelAt buf.depthTag p
  let g := groupSolid clxcon tag
  let clx := if config.clxSS then spriteSprite g clx else clx
  if config.clxSP then spritePlayfield clxcon g tag (pixelAt buf.rawBits p) clx else clx

/-- `PlayfieldPlayfield()`: the sticky bit 0 (R171). -/
def playfieldPlayfield (hpixels : Nat) (clxcon : Word) (buf : LineBufs) (clx : BitVec 15) :
    BitVec 15 :=
  if clx.getLsbD 0 then clx
  else setClx ((List.range hpixels).any fun p =>
    playfieldsMatch clxcon (pixelAt buf.depthTag p) (pixelAt buf.rawBits p)) 0 clx

/-- The collision bits after the line (R167). -/
def collideLine (hpixels : Nat) (config : Config) (clxcon : Word) (buf : LineBufs)
    (clx : BitVec 15) : BitVec 15 :=
  let clx := (List.range hpixels).foldl (collidePixel config clxcon buf) clx
  if config.clxPP then playfieldPlayfield hpixels clxcon buf clx else clx

/-- `Collide()` (R167). -/
def State.collide (s : State) : State :=
  { s with clxdat := collideLine s.par.hpixels s.config s.reg.clxcon s.buf s.clxdat }

/-- `W CLXCON, v @px` (R165). -/
def execWClxcon (v : Word) (px : Int) (s : State) : Result :=
  checked (writePre s px) s { s with reg := { s.reg with clxcon := v } }

/-- `R CLXDAT`: read and clear; bit 15 reads 1 (R166). -/
def execRClxdat (s : State) : Result :=
  .next ({ s with clxdat := 0 }.respond (.value (0x8000#16 ||| s.clxdat.setWidth 16)))

end Sys2Proof.Machine
end

