-- ==== Sys2Proof/Machine/Color.lean ====
section
/-! DEFINITION. The color palette engine, the border and the frame-buffer controller
(spec/43_color_framebuffer.md). -/

namespace Sys2Proof.Machine

/-! ## The palette (R187) -/

/-- `pal(i)` for the color registers `color` and the lookup table `lut` (R187); an index above 64 is
not given a color there (log 18). -/
def pal (lut : Vector Device 4096) (color : Vector Color 32) (i : BitVec 7) : Device :=
  if h : i.toNat < 32 then lut[color[i.toNat].toFin]
  else if h : i.toNat < 64 then lut[(halfBright color[i.toNat - 32]).toFin]
  else if i.toNat = 64 then 0xFF000000#32
  else Config.palUnstated i

/-! ## The border (R194, R195) -/

/-- What the border fill's replay works on. -/
structure BorderState where
  diw : Diw
  buf : LineBufs
deriving DecidableEq, Repr

/-- `ApplyDiw` on the replayed registers (R194). -/
def applyDiwRegs (st : Diw) (c : Change) : Diw :=
  match c.registerId with
  | .diwstrt => { st with diwstrt := c.value }
  | .diwstop => { st with diwstop := c.value }
  | .bplcon3 => { st with bplcon3 := c.value }
  | .bplcon0 => { st with bplcon0 := c.value }
  | _ => st

/-- `ApplyDiw` (R194). -/
def applyDiw (t : BorderState) (c : Change) : BorderState := { t with diw := applyDiwRegs t.diw c }

/-- `BorderIndex(st)` (R195). -/
def borderIndex (chip : Chip) (st : Diw) : BitVec 8 :=
  if chip = .ecs ∧ ecsena st.bplcon0 = true ∧ brdrblnk st.bplcon3 = true then 64 else 0

/-- The horizontal window flip-flop after the comparisons at `p` (R194). -/
def windowFlop (st : Diw) (p : Nat) : Bool :=
  if p = windowStop st.diwstop then false
  else if p = windowStart st.diwstrt then true
  else st.hFlop

/-- `BorderPixel(st, p)` (R194). -/
def borderPixel (chip : Chip) (vFlop : Bool) (t : BorderState) (p : Nat) : BorderState :=
  let st := { t.diw with hFlop := windowFlop t.diw p }
  let flag := if vFlop = true ∧ st.hFlop = true then 0 else 0x80#8 ||| borderIndex chip st
  { diw := st, buf := { t.buf with borderFlag := setPixel t.buf.borderFlag p flag } }

/-- `BorderFill()` (R194). -/
def State.borderFill (s : State) : State :=
  let t := replay s.par.hpixels applyDiw (borderPixel s.par.chip s.vFlop) s.qDiw
    { diw := s.diw, buf := s.buf }
  { s with diw := t.diw, buf := t.buf, qDiw := [] }

/-! ## The colorizer (R196 to R200) -/

/-- What the colorizer's replay works on: its registers, the HAM hold color and the line of cells,
the last two local to one call (R196). -/
structure ColorState where
  col : Col
  hold : Color
  line : List Cell
deriving DecidableEq, Repr

/-- `ApplyCol` on the replayed registers (R196). -/
def applyColRegs (st : Col) (c : Change) : Col :=
  match c.registerId with
  | .color n => { st with color := st.color.set n (colorOfWord c.value) }
  | .bplcon0 => { st with bplcon0 := c.value }
  | _ => st

/-- `ApplyCol` (R196). -/
def applyCol (t : ColorState) (c : Change) : ColorState := { t with col := applyColRegs t.col c }

/-- The colorizer's modes (R200). -/
inductive ColorMode where
  | normal
  | ham
  | shres
deriving DecidableEq, Repr

/-- `Mode(st)` (R200). -/
def colorMode (chip : Chip) (bplcon0 : Word) : ColorMode :=
  if resolution chip bplcon0 = .shres then .shres
  else if homod bplcon0 = true ∧ dblpf bplcon0 = false then .ham
  else .normal

/-- What the colorizer reads at one position. -/
structure PixelInput where
  border : BitVec 8
  colorIndex : BitVec 6
  muxIndex : BitVec 7
  tag : Tag
deriving DecidableEq, Repr

/-- The scanline buffers' entries at `p`. -/
def pixelInput (buf : LineBufs) (p : Nat) : PixelInput where
  border := pixelAt buf.borderFlag p
  colorIndex := pixelAt buf.colorIndex p
  muxIndex := pixelAt buf.multiplexedIndex p
  tag := pixelAt buf.depthTag p

/-- A border pixel: `borderFlag[p][7] = 1` (R39). -/
def PixelInput.isBorder (x : PixelInput) : Bool := x.border.getLsbD 7

/-- The palette index of a border pixel, `borderFlag[p][6:0]` (R39). -/
def PixelInput.borderColor (x : PixelInput) : BitVec 7 := x.border.extractLsb' 0 7

/-- `NormalPixel(st, p)` (R197). -/
def normalPixel (lut : Vector Device 4096) (st : Col) (x : PixelInput) : Cell :=
  let c := if x.isBorder then pal lut st.color x.borderColor else pal lut st.color x.muxIndex
  { c0 := c, c1 := c }

/-- The HAM hold color after a position (R198). -/
def hamHold (st : Col) (hold : Color) (ci : BitVec 6) : Color :=
  let d := (ci.extractLsb' 0 4).setWidth 12
  match (ci.extractLsb' 4 2).toNat with
  | 0 => st.color[(ci.extractLsb' 0 4).toNat]'(Nat.lt_of_lt_of_le (BitVec.isLt _) (by decide))
  | 1 => (hold &&& 0xFF0#12) ||| d
  | 2 => (hold &&& 0x0FF#12) ||| (d <<< 8)
  | _ => (hold &&& 0xF0F#12) ||| (d <<< 4)

/-- `HamPixel(st, p)` with the hold color already updated (R198). -/
def hamPixel (lut : Vector Device 4096) (st : Col) (hold : Color) (x : PixelInput) : Cell :=
  let c :=
    if x.isBorder then pal lut st.color x.borderColor
    else if isSprDepth (depthOf x.tag) then pal lut st.color x.muxIndex
    else lut[hold.toFin]
  { c0 := c, c1 := c }

/-- One sub-pixel of a SHRES position, with playfield index `sub` (R199). -/
def shresSub (lut : Vector Device 4096) (st : Col) (x : PixelInput) (sub : BitVec 2) : Device :=
  if x.isBorder then pal lut st.color x.borderColor
  else if isSprDepth (depthOf x.tag) then pal lut st.color x.muxIndex
  else if sub = 0 ∧ tagHas x.tag sprUnder = true then pal lut st.color x.muxIndex
  else pal lut st.color (sub.setWidth 7)

/-- `ShresPixel2(st, p)` (R199). -/
def shresPixel2 (lut : Vector Device 4096) (st : Col) (x : PixelInput) : Cell where
  c0 := shresSub lut st x (x.colorIndex.extractLsb' 0 2)
  c1 := shresSub lut st x (x.colorIndex.extractLsb' 2 2)

/-- `ColorPixel(st, p)` (R196). -/
def colorPixel (chip : Chip) (lut : Vector Device 4096) (buf : LineBufs) (t : ColorState) (p : Nat) :
    ColorState :=
  let x := pixelInput buf p
  match colorMode chip t.col.bplcon0 with
  | .normal => { t with line := t.line.set p (normalPixel lut t.col x) }
  | .ham =>
    let hold := hamHold t.col t.hold x.colorIndex
    { t with hold := hold, line := t.line.set p (hamPixel lut t.col hold x) }
  | .shres => { t with line := t.line.set p (shresPixel2 lut t.col x) }

/-- `Colorize()` on the scanline buffers (R196): the replayed registers after the line, and the line
of cells. -/
def State.colorRun (s : State) : ColorState :=
  replay s.par.hpixels applyCol (colorPixel s.par.chip s.lut s.buf) s.qCol
    { col := s.col, hold := s.col.color[0], line := List.replicate s.par.hpixels Cell.reset }

/-! ## The hide-layer pass (R201 to R203) -/

/-- `Layer(p)` from the tag at p (R202). -/
def layerOf (tag : Tag) : Option Nat :=
  match spriteOfDepth (depthOf tag) with
  | some n => some n.val
  | none => if isPfDepth (depthOf tag) then some (if tagHas tag visPf2 then 9 else 8) else none

/-- `Checker(p, v)` (R203). -/
def checker (p v : Nat) : Device :=
  if (p / 8 + v / 8) % 2 = 0 then 0xFF222222#32 else 0xFF444444#32

/-- One channel byte of `Blend` (R201). -/
def blendByte (o c k : BitVec 8) : BitVec 8 :=
  BitVec.ofNat 8 ((o.toNat * c.toNat + (255 - o.toNat) * k.toNat) / 255)

/-- `Blend(c, k, o)` (R201). -/
def blend (c k : Device) (o : BitVec 8) : Device :=
  0xFF#8 ++ (blendByte o (c.extractLsb' 16 8) (k.extractLsb' 16 8) ++
    (blendByte o (c.extractLsb' 8 8) (k.extractLsb' 8 8) ++
      blendByte o (c.extractLsb' 0 8) (k.extractLsb' 0 8)))

/-- The pixel's layer is hidden and the pixel is no border pixel (R201). -/
def hiddenHere (layers : BitVec 10) (x : PixelInput) : Bool :=
  !x.isBorder && (match layerOf x.tag with
    | some l => layers.getLsbD l
    | none => false)

/-- The hide-layer pass at position `p` (R201). -/
def hidePixel (config : Config) (vpos : Word) (x : PixelInput) (p : Nat) (cell : Cell) : Cell :=
  if hiddenHere config.hiddenLayers x then
    let k := checker p vpos.toNat
    { c0 := blend cell.c0 k config.hideOpacity, c1 := blend cell.c1 k config.hideOpacity }
  else cell

/-- The hide-layer pass over the cells from position `p` on. -/
def hideFrom (config : Config) (vpos : Word) (buf : LineBufs) : Nat → List Cell → List Cell
  | _, [] => []
  | p, c :: line => hidePixel config vpos (pixelInput buf p) p c :: hideFrom config vpos buf (p + 1) line

/-- `HidePass()` (R201). -/
def State.hidePass (s : State) (line : List Cell) : List Cell :=
  if s.config.hiddenLayers = 0 then line else hideFrom s.config s.curVpos s.buf 0 line

/-! ## Line output and the ring (R204, R207) -/

/-- The line is written into row `curVpos` of the working buffer, position by position (R204). -/
def State.writeLine (s : State) (line : List Cell) : State :=
  let out (fb : List FrameBuffer) (p : Nat) : List FrameBuffer :=
    fbWrite s.par fb s.writeIndex s.curVpos.toNat p (line.getD p Cell.reset)
  { s with fb := (List.range s.par.hpixels).foldl out s.fb }

/-- `Colorize()`, `HidePass()` and the frame-buffer write of `endOfLine` (R196, R201, R204, R228). -/
def State.outputLine (s : State) : State :=
  let t := s.colorRun
  let s := { s with col := t.col, qCol := [] }
  s.writeLine (s.hidePass t.line)

/-- `Rotate()` (R207). -/
def State.rotate (s : State) : State :=
  let f := { bufferAt s.fb s.writeIndex with
    nr := s.frameCounter, lof := s.curLof, lace := lace s.reg.bplcon0 }
  { s with
    fb := s.fb.set s.writeIndex f
    writeIndex := (s.writeIndex + 1) % s.par.nFb
    frameCounter := s.frameCounter + 1 }

/-! ## Register writes -/

/-- A write that is queued in `Q_DIW`: the checks and the insertion (R66, R67). -/
def queueDiw (id : RegId) (v : Word) (px : Int) (s : State) : Result :=
  checked ((writePre s px).or (overflowCheck s.par.changeCap [s.qDiw])) s
    { s with qDiw := enqueue { triggerPixel := px, registerId := id, value := v } s.qDiw }

/-- A write that is queued in `Q_COL` for color register `n`: the checks and the insertion (R66,
R67, R185). -/
def queueColor (n : Fin 32) (v : Word) (px : Int) (s : State) : Result :=
  checked ((writePre s px).or (overflowCheck s.par.changeCap [s.qCol])) s
    { s with qCol := enqueue { triggerPixel := px, registerId := .color n, value := v } s.qCol }

/-- `W DIWSTRT, v @px` (R191). -/
def execWDiwstrt (v : Word) (px : Int) (s : State) : Result := queueDiw .diwstrt v px s

/-- `W DIWSTOP, v @px` (R192). -/
def execWDiwstop (v : Word) (px : Int) (s : State) : Result := queueDiw .diwstop v px s

/-- `W BPLCON3, v @px`: ignored on OCS, before the preamble (R99, R193, log 13). -/
def execWBplcon3 (v : Word) (px : Int) (s : State) : Result :=
  if s.par.chip = .ocs then .next s else queueDiw .bplcon3 v px s

/-- `W COLOR00, v @px` (R185). -/
def execWColor00 (v : Word) (px : Int) (s : State) : Result := queueColor 0 v px s

/-- `W COLOR01, v @px` (R185). -/
def execWColor01 (v : Word) (px : Int) (s : State) : Result := queueColor 1 v px s

/-- `W COLOR02, v @px` (R185). -/
def execWColor02 (v : Word) (px : Int) (s : State) : Result := queueColor 2 v px s

/-- `W COLOR03, v @px` (R185). -/
def execWColor03 (v : Word) (px : Int) (s : State) : Result := queueColor 3 v px s

/-- `W COLOR04, v @px` (R185). -/
def execWColor04 (v : Word) (px : Int) (s : State) : Result := queueColor 4 v px s

/-- `W COLOR05, v @px` (R185). -/
def execWColor05 (v : Word) (px : Int) (s : State) : Result := queueColor 5 v px s

/-- `W COLOR06, v @px` (R185). -/
def execWColor06 (v : Word) (px : Int) (s : State) : Result := queueColor 6 v px s

/-- `W COLOR07, v @px` (R185). -/
def execWColor07 (v : Word) (px : Int) (s : State) : Result := queueColor 7 v px s

/-- `W COLOR08, v @px` (R185). -/
def execWColor08 (v : Word) (px : Int) (s : State) : Result := queueColor 8 v px s

/-- `W COLOR09, v @px` (R185). -/
def execWColor09 (v : Word) (px : Int) (s : State) : Result := queueColor 9 v px s

/-- `W COLOR10, v @px` (R185). -/
def execWColor10 (v : Word) (px : Int) (s : State) : Result := queueColor 10 v px s

/-- `W COLOR11, v @px` (R185). -/
def execWColor11 (v : Word) (px : Int) (s : State) : Result := queueColor 11 v px s

/-- `W COLOR12, v @px` (R185). -/
def execWColor12 (v : Word) (px : Int) (s : State) : Result := queueColor 12 v px s

/-- `W COLOR13, v @px` (R185). -/
def execWColor13 (v : Word) (px : Int) (s : State) : Result := queueColor 13 v px s

/-- `W COLOR14, v @px` (R185). -/
def execWColor14 (v : Word) (px : Int) (s : State) : Result := queueColor 14 v px s

/-- `W COLOR15, v @px` (R185). -/
def execWColor15 (v : Word) (px : Int) (s : State) : Result := queueColor 15 v px s

/-- `W COLOR16, v @px` (R185). -/
def execWColor16 (v : Word) (px : Int) (s : State) : Result := queueColor 16 v px s

/-- `W COLOR17, v @px` (R185). -/
def execWColor17 (v : Word) (px : Int) (s : State) : Result := queueColor 17 v px s

/-- `W COLOR18, v @px` (R185). -/
def execWColor18 (v : Word) (px : Int) (s : State) : Result := queueColor 18 v px s

/-- `W COLOR19, v @px` (R185). -/
def execWColor19 (v : Word) (px : Int) (s : State) : Result := queueColor 19 v px s

/-- `W COLOR20, v @px` (R185). -/
def execWColor20 (v : Word) (px : Int) (s : State) : Result := queueColor 20 v px s

/-- `W COLOR21, v @px` (R185). -/
def execWColor21 (v : Word) (px : Int) (s : State) : Result := queueColor 21 v px s

/-- `W COLOR22, v @px` (R185). -/
def execWColor22 (v : Word) (px : Int) (s : State) : Result := queueColor 22 v px s

/-- `W COLOR23, v @px` (R185). -/
def execWColor23 (v : Word) (px : Int) (s : State) : Result := queueColor 23 v px s

/-- `W COLOR24, v @px` (R185). -/
def execWColor24 (v : Word) (px : Int) (s : State) : Result := queueColor 24 v px s

/-- `W COLOR25, v @px` (R185). -/
def execWColor25 (v : Word) (px : Int) (s : State) : Result := queueColor 25 v px s

/-- `W COLOR26, v @px` (R185). -/
def execWColor26 (v : Word) (px : Int) (s : State) : Result := queueColor 26 v px s

/-- `W COLOR27, v @px` (R185). -/
def execWColor27 (v : Word) (px : Int) (s : State) : Result := queueColor 27 v px s

/-- `W COLOR28, v @px` (R185). -/
def execWColor28 (v : Word) (px : Int) (s : State) : Result := queueColor 28 v px s

/-- `W COLOR29, v @px` (R185). -/
def execWColor29 (v : Word) (px : Int) (s : State) : Result := queueColor 29 v px s

/-- `W COLOR30, v @px` (R185). -/
def execWColor30 (v : Word) (px : Int) (s : State) : Result := queueColor 30 v px s

/-- `W COLOR31, v @px` (R185). -/
def execWColor31 (v : Word) (px : Int) (s : State) : Result := queueColor 31 v px s

end Sys2Proof.Machine
end

