-- ==== Sys2Proof/Machine/Playfield.lean ====
section
/-! DEFINITION. The playfield translator and priority encoder (spec/41_playfield_translator.md). -/

namespace Sys2Proof.Machine

/-- A translated pixel: its color index and its depth tag (R131). -/
abbrev Translated := BitVec 6 × Tag

/-- The flag where the condition holds, else no bit. -/
def flagIf (cond : Bool) (f : Tag) : Tag := if cond then f else 0

/-- The single-playfield quirk (R134). -/
def quirk (st : Ctrl) (r : BitVec 6) : Bool :=
  !legalPriority (pf2p st.bplcon2) && !homod st.bplcon0 && r.getLsbD 4

/-- `SpfPixel(st, r)` (R133). -/
def spfPixel (st : Ctrl) (r : BitVec 6) : Translated :=
  let ci := if quirk st r then r &&& 0x30#6 else r
  let z := if ci ≠ 0 ∧ legalPriority (pf2p st.bplcon2) = true then zPf (pf2p st.bplcon2) else 0
  (ci, z ||| flagIf (ci &&& 0x15#6 != 0) pf1Solid ||| flagIf (ci &&& 0x2A#6 != 0) pf2Solid)

/-- Playfield 1's index: planes 1, 3, 5, and 0 where its priority is illegal (R135, R136). -/
def dpfIndex1 (st : Ctrl) (r : BitVec 6) : BitVec 6 :=
  if legalPriority (pf1p st.bplcon2) then
    (r &&& 0x01#6) ||| ((r >>> 1) &&& 0x02#6) ||| ((r >>> 2) &&& 0x04#6)
  else 0

/-- Playfield 2's index: planes 2, 4, 6, and 0 where its priority is illegal (R135, R136). -/
def dpfIndex2 (st : Ctrl) (r : BitVec 6) : BitVec 6 :=
  if legalPriority (pf2p st.bplcon2) then
    ((r >>> 1) &&& 0x01#6) ||| ((r >>> 2) &&& 0x02#6) ||| ((r >>> 3) &&& 0x04#6)
  else 0

/-- `DpfPixel(st, r)` (R135). -/
def dpfPixel (st : Ctrl) (r : BitVec 6) : Translated :=
  let i1 := dpfIndex1 st r
  let i2 := dpfIndex2 st r
  let tag := dpfFlag ||| flagIf (i1 != 0) pf1Solid ||| flagIf (i2 != 0) pf2Solid
  let front2 := pf2pri st.bplcon2
  if i1 ≠ 0 ∧ (front2 = false ∨ i2 = 0) then (i1, tag ||| zPf (pf1p st.bplcon2))
  else if i2 ≠ 0 then (i2 + 8, tag ||| zPf (pf2p st.bplcon2) ||| visPf2)
  else (0, tag)

/-- `ShresPixel(st, r)` (R137). -/
def shresPixel (st : Ctrl) (r : BitVec 6) : Translated :=
  let ci := r &&& 0x0F#6
  let z := if ci ≠ 0 ∧ legalPriority (pf2p st.bplcon2) = true then zPf (pf2p st.bplcon2) else 0
  (ci, z ||| shresPix ||| flagIf (ci &&& 0x5#6 != 0) pf1Solid ||| flagIf (ci &&& 0xA#6 != 0) pf2Solid)

/-- The translation of one raw entry in the mode that the replayed registers select (R131, R132). -/
def translateRaw (chip : Chip) (st : Ctrl) (r : BitVec 6) : Translated :=
  if resolution chip st.bplcon0 = .shres then shresPixel st r
  else if dblpf st.bplcon0 then dpfPixel st r
  else spfPixel st r

/-- What the translator's replay works on. -/
structure TranslateState where
  ctrl : Ctrl
  buf : LineBufs
deriving DecidableEq, Repr

/-- `ApplyCtrl` on the replayed registers (R131). -/
def applyCtrlRegs (st : Ctrl) (c : Change) : Ctrl :=
  match c.registerId with
  | .bplcon0 => { st with bplcon0 := c.value }
  | .bplcon2 => { st with bplcon2 := c.value }
  | _ => st

/-- `ApplyCtrl` (R131). -/
def applyCtrl (t : TranslateState) (c : Change) : TranslateState :=
  { t with ctrl := applyCtrlRegs t.ctrl c }

/-- `TranslatePixel(st, p)` (R131). -/
def translatePixel (chip : Chip) (t : TranslateState) (p : Nat) : TranslateState :=
  let x := translateRaw chip t.ctrl (pixelAt t.buf.rawBits p)
  { t with buf := { t.buf with
      colorIndex := setPixel t.buf.colorIndex p x.1
      multiplexedIndex := setPixel t.buf.multiplexedIndex p (x.1.setWidth 7)
      depthTag := setPixel t.buf.depthTag p x.2 } }

/-- `Translate()` (R131). -/
def State.translate (s : State) : State :=
  let t := replay s.par.hpixels applyCtrl (translatePixel s.par.chip) s.qCtrl
    { ctrl := s.ctrl, buf := s.buf }
  { s with ctrl := t.ctrl, buf := t.buf, qCtrl := [] }

/-- `W BPLCON2, v @px` (R139). -/
def execWBplcon2 (v : Word) (px : Int) (s : State) : Result :=
  checked ((writePre s px).or (overflowCheck s.par.changeCap [s.qCtrl])) s
    ({ s with qCtrl := enqueue { triggerPixel := px, registerId := .bplcon2, value := v } s.qCtrl }.logDiagIf
      (!legalPriority (pf1p v) || !legalPriority (pf2p v)) .priorityOutOfRange v)

end Sys2Proof.Machine
end

