-- ==== Sys2Proof/Machine/Sprites.lean ====
section
/-! DEFINITION. The sprite synthesizer (spec/42_sprites_collision.md R150 to R164, R174). -/

namespace Sys2Proof.Machine

/-! ## Replay of the pair queues (R157) -/

/-- What a pair's replay works on. -/
structure SpriteState where
  spr : Vector Sprite 8
  buf : LineBufs
deriving DecidableEq, Repr

/-- The "apply" lines of R155. -/
def applySpren (u : Sprite) (mode : SprenMode) : Sprite :=
  match mode with
  | .enable => { u with enabled := true, pendingDisable := false }
  | .disableNow => { u with enabled := false, pendingDisable := false }
  | .disableNextLine => { u with pendingDisable := true }

/-- The "apply" lines of R151 to R155 on the eight units. -/
def applySprRegs (spr : Vector Sprite 8) (c : Change) : Vector Sprite 8 :=
  match c.registerId with
  | .sprPos x => spr.set x { spr[x] with pos := c.value }
  | .sprCtl x => spr.set x { spr[x] with ctl := c.value, armed := false }
  | .sprData x => spr.set x { spr[x] with dataA := c.value, armed := true }
  | .sprDatb x => spr.set x { spr[x] with dataB := c.value }
  | .spren x mode => spr.set x (applySpren spr[x] mode)
  | _ => spr

/-- `ApplySpr` (R157). -/
def applySpr (t : SpriteState) (c : Change) : SpriteState := { t with spr := applySprRegs t.spr c }

/-- What stays fixed during a pair's pass: the hide mask and the line's clip window (R162). -/
structure SpriteParams where
  hidden : BitVec 8
  clipBegin : Word
  clipEnd : Word
deriving DecidableEq, Repr

/-- `LoadIfStart(x, p)` on the unit (R158). -/
def loadIfStart (p : Nat) (u : Sprite) : Sprite :=
  if u.armed = true ∧ p = spriteStart u then
    { u with shiftA := u.dataA, shiftB := u.dataB, half := false }
  else u

/-- `Advance(x)` on the unit (R159). -/
def advance (u : Sprite) : Sprite :=
  if u.half then { u with shiftA := u.shiftA <<< 1, shiftB := u.shiftB <<< 1, half := false }
  else { u with half := true }

/-- `Visible(x, p)` (R162). -/
def visible (d : SpriteParams) (u : Sprite) (x : Fin 8) (p : Nat) : Bool :=
  u.enabled && !d.hidden.getLsbD x.val && decide (d.clipBegin.toNat ≤ p) && decide (p < d.clipEnd.toNat)

/-- The selector sprite `x` contributes at `p`: 0 where it is not visible (R157, R162). -/
def shownSelector (d : SpriteParams) (u : Sprite) (x : Fin 8) (p : Nat) : BitVec 2 :=
  if visible d u x p then selector u else 0

/-- A pixel as the sprites see it: the palette index and the depth tag. -/
abbrev SpritePixel := BitVec 7 × Tag

/-- `Offer(p, z, idx)` on the pixel (R160, R163). -/
def offer (z : Tag) (idx : BitVec 7) (x : SpritePixel) : SpritePixel :=
  let d := depthOf x.2
  if d.toNat < z.toNat then (idx, (x.2 &&& ~~~depthMask) ||| z)
  else if tagHas x.2 shresPix = true ∧ isPfDepth d = true ∧ tagHas x.2 sprUnder = false then
    (idx, x.2 ||| sprUnder)
  else x

/-- `SPR_SOLID[x] <- 1` where the selector is not 0 (R157). -/
def markSolid (x : Fin 8) (sel : BitVec 2) (px : SpritePixel) : SpritePixel :=
  if sel = 0 then px else (px.1, px.2 ||| sprSolid x)

/-- The color register a sprite of pair `k` shows for selector `s`: `16 + 4k + s` (R161). -/
def bankColor (k : Fin 4) (s : BitVec 2) : BitVec 7 := BitVec.ofNat 7 (16 + 4 * k.val + s.toNat)

/-- The color register an attached pair shows for the 4-bit selector `so ++ se` (R161). -/
def attachedColor (so se : BitVec 2) : BitVec 7 := BitVec.ofNat 7 (16 + (so ++ se).toNat)

/-- What the selectors `se`, `so` of pair `k` draw on a pixel (R157, R161). -/
def pairPixel (k : Fin 4) (attached : Bool) (se so : BitVec 2) (px : SpritePixel) : SpritePixel :=
  let px := markSolid (oddSprite k) so (markSolid (evenSprite k) se px)
  if attached then
    if se = 0 ∧ so = 0 then px else offer (zSp (evenSprite k)) (attachedColor so se) px
  else
    let px := if se = 0 then px else offer (zSp (evenSprite k)) (bankColor k se) px
    if so = 0 then px else offer (zSp (oddSprite k)) (bankColor k so) px

/-- `Attached(k)`: the attach bit of the pair's odd sprite (R150). -/
def attached (spr : Vector Sprite 8) (k : Fin 4) : Bool := attachBit spr[oddSprite k].ctl

/-- `SpritePixel_k(st, p)` (R157). -/
def spritePixel (d : SpriteParams) (k : Fin 4) (t : SpriteState) (p : Nat) : SpriteState :=
  let e := evenSprite k
  let o := oddSprite k
  let ue := loadIfStart p t.spr[e]
  let uo := loadIfStart p t.spr[o]
  let x := pairPixel k (attached t.spr k) (shownSelector d ue e p) (shownSelector d uo o p)
    (pixelAt t.buf.multiplexedIndex p, pixelAt t.buf.depthTag p)
  { spr := (t.spr.set e (advance ue)).set o (advance uo)
    buf := { t.buf with
      multiplexedIndex := setPixel t.buf.multiplexedIndex p x.1
      depthTag := setPixel t.buf.depthTag p x.2 } }

/-- `SpriteLine(k)` (R157). -/
def State.spriteLine (s : State) (k : Fin 4) : State :=
  let d : SpriteParams :=
    { hidden := s.config.hiddenSprites, clipBegin := s.clipBegin, clipEnd := s.clipEnd }
  let t := replay s.par.hpixels applySpr (spritePixel d k) s.qSpr[k] { spr := s.spr, buf := s.buf }
  { s with spr := t.spr, buf := t.buf, qSpr := s.qSpr.set k [] }

/-- The four passes in ascending order (R157, R228). -/
def State.spriteLines (s : State) : State :=
  (((s.spriteLine 0).spriteLine 1).spriteLine 2).spriteLine 3

/-- One unit at the start of a line (R174). -/
def spriteLineStart (u : Sprite) : Sprite :=
  if u.pendingDisable then
    { u with shiftA := 0, shiftB := 0, half := false, enabled := false, pendingDisable := false }
  else { u with shiftA := 0, shiftB := 0, half := false }

/-! ## Register writes (R151 to R155) -/

/-- A write that is queued for sprite `x`'s pair: the checks and the insertion (R66, R67). -/
def queueSprite (x : Fin 8) (id : RegId) (v : Word) (px : Int) (s : State) : Result :=
  let k := pairOf x
  let q := enqueue { triggerPixel := px, registerId := id, value := v } s.qSpr[k]
  checked ((writePre s px).or (overflowCheck s.par.changeCap [s.qSpr[k]])) s
    { s with qSpr := s.qSpr.set k q }

/-- The mode of a sprite enable event (R155). -/
def sprenMode (sprFetchStart : Nat) (on : Bool) (px : Int) : SprenMode :=
  if on then .enable else if px < sprFetchStart then .disableNow else .disableNextLine

/-- `SPREN n, on/off @px` (R155). -/
def execSpren (n : BitVec 3) (on : Bool) (px : Int) (s : State) : Result :=
  queueSprite n.toFin (.spren n.toFin (sprenMode s.par.sprFetchStart on px))
    ((BitVec.ofBool on).setWidth 16) px s

/-- `W SPR0POS, v @px` (R151). -/
def execWSpr0pos (v : Word) (px : Int) (s : State) : Result := queueSprite 0 (.sprPos 0) v px s

/-- `W SPR0CTL, v @px` (R152). -/
def execWSpr0ctl (v : Word) (px : Int) (s : State) : Result := queueSprite 0 (.sprCtl 0) v px s

/-- `W SPR0DATA, v @px` (R153). -/
def execWSpr0data (v : Word) (px : Int) (s : State) : Result := queueSprite 0 (.sprData 0) v px s

/-- `W SPR0DATB, v @px` (R154). -/
def execWSpr0datb (v : Word) (px : Int) (s : State) : Result := queueSprite 0 (.sprDatb 0) v px s

/-- `W SPR1POS, v @px` (R151). -/
def execWSpr1pos (v : Word) (px : Int) (s : State) : Result := queueSprite 1 (.sprPos 1) v px s

/-- `W SPR1CTL, v @px` (R152). -/
def execWSpr1ctl (v : Word) (px : Int) (s : State) : Result := queueSprite 1 (.sprCtl 1) v px s

/-- `W SPR1DATA, v @px` (R153). -/
def execWSpr1data (v : Word) (px : Int) (s : State) : Result := queueSprite 1 (.sprData 1) v px s

/-- `W SPR1DATB, v @px` (R154). -/
def execWSpr1datb (v : Word) (px : Int) (s : State) : Result := queueSprite 1 (.sprDatb 1) v px s

/-- `W SPR2POS, v @px` (R151). -/
def execWSpr2pos (v : Word) (px : Int) (s : State) : Result := queueSprite 2 (.sprPos 2) v px s

/-- `W SPR2CTL, v @px` (R152). -/
def execWSpr2ctl (v : Word) (px : Int) (s : State) : Result := queueSprite 2 (.sprCtl 2) v px s

/-- `W SPR2DATA, v @px` (R153). -/
def execWSpr2data (v : Word) (px : Int) (s : State) : Result := queueSprite 2 (.sprData 2) v px s

/-- `W SPR2DATB, v @px` (R154). -/
def execWSpr2datb (v : Word) (px : Int) (s : State) : Result := queueSprite 2 (.sprDatb 2) v px s

/-- `W SPR3POS, v @px` (R151). -/
def execWSpr3pos (v : Word) (px : Int) (s : State) : Result := queueSprite 3 (.sprPos 3) v px s

/-- `W SPR3CTL, v @px` (R152). -/
def execWSpr3ctl (v : Word) (px : Int) (s : State) : Result := queueSprite 3 (.sprCtl 3) v px s

/-- `W SPR3DATA, v @px` (R153). -/
def execWSpr3data (v : Word) (px : Int) (s : State) : Result := queueSprite 3 (.sprData 3) v px s

/-- `W SPR3DATB, v @px` (R154). -/
def execWSpr3datb (v : Word) (px : Int) (s : State) : Result := queueSprite 3 (.sprDatb 3) v px s

/-- `W SPR4POS, v @px` (R151). -/
def execWSpr4pos (v : Word) (px : Int) (s : State) : Result := queueSprite 4 (.sprPos 4) v px s

/-- `W SPR4CTL, v @px` (R152). -/
def execWSpr4ctl (v : Word) (px : Int) (s : State) : Result := queueSprite 4 (.sprCtl 4) v px s

/-- `W SPR4DATA, v @px` (R153). -/
def execWSpr4data (v : Word) (px : Int) (s : State) : Result := queueSprite 4 (.sprData 4) v px s

/-- `W SPR4DATB, v @px` (R154). -/
def execWSpr4datb (v : Word) (px : Int) (s : State) : Result := queueSprite 4 (.sprDatb 4) v px s

/-- `W SPR5POS, v @px` (R151). -/
def execWSpr5pos (v : Word) (px : Int) (s : State) : Result := queueSprite 5 (.sprPos 5) v px s

/-- `W SPR5CTL, v @px` (R152). -/
def execWSpr5ctl (v : Word) (px : Int) (s : State) : Result := queueSprite 5 (.sprCtl 5) v px s

/-- `W SPR5DATA, v @px` (R153). -/
def execWSpr5data (v : Word) (px : Int) (s : State) : Result := queueSprite 5 (.sprData 5) v px s

/-- `W SPR5DATB, v @px` (R154). -/
def execWSpr5datb (v : Word) (px : Int) (s : State) : Result := queueSprite 5 (.sprDatb 5) v px s

/-- `W SPR6POS, v @px` (R151). -/
def execWSpr6pos (v : Word) (px : Int) (s : State) : Result := queueSprite 6 (.sprPos 6) v px s

/-- `W SPR6CTL, v @px` (R152). -/
def execWSpr6ctl (v : Word) (px : Int) (s : State) : Result := queueSprite 6 (.sprCtl 6) v px s

/-- `W SPR6DATA, v @px` (R153). -/
def execWSpr6data (v : Word) (px : Int) (s : State) : Result := queueSprite 6 (.sprData 6) v px s

/-- `W SPR6DATB, v @px` (R154). -/
def execWSpr6datb (v : Word) (px : Int) (s : State) : Result := queueSprite 6 (.sprDatb 6) v px s

/-- `W SPR7POS, v @px` (R151). -/
def execWSpr7pos (v : Word) (px : Int) (s : State) : Result := queueSprite 7 (.sprPos 7) v px s

/-- `W SPR7CTL, v @px` (R152). -/
def execWSpr7ctl (v : Word) (px : Int) (s : State) : Result := queueSprite 7 (.sprCtl 7) v px s

/-- `W SPR7DATA, v @px` (R153). -/
def execWSpr7data (v : Word) (px : Int) (s : State) : Result := queueSprite 7 (.sprData 7) v px s

/-- `W SPR7DATB, v @px` (R154). -/
def execWSpr7datb (v : Word) (px : Int) (s : State) : Result := queueSprite 7 (.sprDatb 7) v px s

end Sys2Proof.Machine
end

