-- ==== Sys2Proof/Machine/Control.lean ====
section
/-! DEFINITION. The line, frame, reader, configuration and reset operations, and the accesses the block
ignores (spec/44_line_frame_control.md, spec/30_encoding.md R96 and R97). -/

namespace Sys2Proof.Machine

/-! ## Reset (R225, R265, R266) -/

/-- The source of the items marked "(R)": 0, or the bits left open for the `n`-th reset (R265, R266,
log 10). -/
def resetSource (policy : ResetPolicy) (n : Nat) (item : ResetItem) : BitVec 64 :=
  match policy with
  | .zero => 0
  | .arbitrary => Config.resetBits n item

/-- A 16-bit item after reset. -/
def resetWord (src : ResetItem → BitVec 64) (item : ResetItem) : Word := (src item).setWidth 16

/-- A sprite unit after reset: `pos`, `ctl`, `dataA`, `dataB` and `armed` are open items (R266). -/
def resetSprite (src : ResetItem → BitVec 64) (x : Fin 8) : Sprite :=
  { Sprite.reset with
    pos := resetWord src (.sprPos x)
    ctl := resetWord src (.sprCtl x)
    dataA := resetWord src (.sprDataA x)
    dataB := resetWord src (.sprDataB x)
    armed := (src (.sprArmed x)).getLsbD 0 }

/-- A frame-buffer cell after reset. -/
def resetCell (src : ResetItem → BitVec 64) (b row col : Nat) : Cell where
  c0 := (src (.cell b row col)).extractLsb' 0 32
  c1 := (src (.cell b row col)).extractLsb' 32 32

/-- The cells of a frame buffer after reset: all (0, 0), or left open (R265, R266). -/
def resetCells (par : Params) (src : ResetItem → BitVec 64) (b : Nat) : Memory :=
  match par.resetPolicy with
  | .zero => []
  | .arbitrary => Memory.tabulate par.vpixels par.hpixels (resetCell src b)

/-- The state with every item but the configuration at its reset value (R225), the open items taken
from `src`. The parameters and the model's own fields stay. DESIGN CHOICE (log 21), safe: the three
replayed copies of `BPLCON0` (`ctrl`, `diw`, `col`) are three items of their own, drawn independently
under `arbitrary` (D33, R266), although R24 and C9 say that they are equal at every line boundary. -/
def State.resetItems (s : State) (src : ResetItem → BitVec 64) : State :=
  { s with
    reg := { bplcon0 := resetWord src .bplcon0, bplcon1 := resetWord src .bplcon1,
             clxcon := resetWord src .clxcon }
    clxdat := 0
    bpldat := Vector.ofFn fun i => resetWord src (.bpldat i)
    pipe := Vector.ofFn fun i => resetWord src (.pipe i)
    shift := Vector.replicate 6 0
    armedOdd := false
    armedEven := false
    ctrl := { bplcon0 := resetWord src .ctrlBplcon0, bplcon2 := resetWord src .ctrlBplcon2 }
    spr := Vector.ofFn (resetSprite src)
    diw := { diwstrt := resetWord src .diwstrt, diwstop := resetWord src .diwstop,
             bplcon3 := resetWord src .bplcon3, bplcon0 := resetWord src .diwBplcon0,
             hFlop := (src .hFlop).getLsbD 0 }
    col := { color := Vector.ofFn fun n => (src (.color n)).setWidth 12,
             bplcon0 := resetWord src .colBplcon0 }
    qCtrl := []
    qSpr := Vector.replicate 4 []
    qDiw := []
    qCol := []
    buf := LineBufs.cleared s.par.hpixels
    lut := lutTable s.config.lut s.config.monitor
    fb := (List.range s.par.nFb).map fun b =>
      { FrameBuffer.reset with cells := resetCells s.par src b }
    writeIndex := 0
    frameCounter := 0
    frameActive := false
    lineActive := false
    curVpos := 0
    curLof := false
    vFlop := false
    bplDmaLine := false
    clipBegin := 0
    clipEnd := 0
    fatal := none
    diagLog := [] }

/-- The state `RESET` leaves (R225, R265, R266); a reset that draws free values moves their counter
on. -/
def State.afterReset (s : State) : State :=
  let t := s.resetItems (resetSource s.par.resetPolicy s.freeCount)
  match s.par.resetPolicy with
  | .zero => t
  | .arbitrary => t.drawFree

/-- `RESET` (R225). -/
def execReset (s : State) : Result := .next s.afterReset

/-! ## Frames and lines (R226 to R229) -/

/-- `BOF` / `BOF LOF` (R226). -/
def execBof (lof : Bool) (s : State) : Result :=
  checked (if s.frameActive || s.lineActive then some .sequenceError else none) s
    { s with frameActive := true, curLof := lof }

/-- All seven queues are empty (R69). -/
def State.queuesEmpty (s : State) : Bool :=
  s.qCtrl.isEmpty && s.qSpr[0].isEmpty && s.qSpr[1].isEmpty && s.qSpr[2].isEmpty &&
    s.qSpr[3].isEmpty && s.qDiw.isEmpty && s.qCol.isEmpty

/-- `SPRITE_CLIP(bplDmaLine)` (R8, R162, log 6). -/
def spriteClip (par : Params) (bplDmaLine : Bool) : ClipWindow :=
  if bplDmaLine then par.clipDma else par.clipNoDma

/-- The effect of `BOL` once its checks have passed (R227). -/
def State.beginLine (s : State) (vpos : Word) (vFlop bplDmaLine : Bool) : State :=
  { s with
    lineActive := true
    curVpos := vpos
    vFlop := vFlop
    bplDmaLine := bplDmaLine
    clipBegin := (spriteClip s.par bplDmaLine).first
    clipEnd := (spriteClip s.par bplDmaLine).stop
    buf := LineBufs.cleared s.par.hpixels
    spr := s.spr.map spriteLineStart }

/-- `BOL v [V] [D]` (R227). -/
def execBol (vpos : Word) (vFlop bplDmaLine : Bool) (s : State) : Result :=
  checked
    (if !s.frameActive || s.lineActive then some .sequenceError
     else if s.queuesEmpty then none else some .queueNotEmpty)
    s (s.beginLine vpos vFlop bplDmaLine)

/-- The passes of `endOfLine` in their order (R228). -/
def State.endLine (s : State) : State :=
  { s.translate.spriteLines.collide.borderFill.outputLine with lineActive := false }

/-- `EOL v` (R228). -/
def execEol (vpos : Word) (s : State) : Result :=
  checked (if !s.lineActive || vpos != s.curVpos then some .sequenceError else none) s s.endLine

/-- `EOF` (R229). -/
def execEof (s : State) : Result :=
  checked (if !s.frameActive || s.lineActive then some .sequenceError else none) s
    { s.rotate with frameActive := false }

/-! ## Readers and configuration (R230, R231) -/

/-- The index of the stable buffer with offset `k`, `(writeIndex - 1 - k) mod N_FB`, for
`k ≤ N_FB - 2` (R74). -/
def stableIndex (nFb writeIndex k : Nat) : Nat := (writeIndex + nFb - 1 - k) % nFb

/-- `STABLE k` (R230). -/
def execStable (offset : Word) (s : State) : Result :=
  if offset.toNat + 2 ≤ s.par.nFb ∧ offset.toNat < s.frameCounter.toNat then
    .next (s.respond (.frame (bufferAt s.fb (stableIndex s.par.nFb s.writeIndex offset.toNat))))
  else .next (s.respond (.refused .noStableBuffer))

/-- Each field present in the record becomes the configuration's (R231). -/
def updateConfig (c : Config) (u : ConfigUpdate) : Config where
  monitor := u.monitor.getD c.monitor
  lut := u.lut.getD c.lut
  clxSS := u.clxSS.getD c.clxSS
  clxSP := u.clxSP.getD c.clxSP
  clxPP := u.clxPP.getD c.clxPP
  hiddenPlanes := u.hiddenPlanes.getD c.hiddenPlanes
  hiddenSprites := u.hiddenSprites.getD c.hiddenSprites
  hiddenLayers := u.hiddenLayers.getD c.hiddenLayers
  hideOpacity := u.hideOpacity.getD c.hideOpacity

/-- The configuration changed by a record, and the lookup table recomputed where `MONITOR` or `LUT` is
present in it (R231). -/
def State.configure (s : State) (u : ConfigUpdate) : State :=
  let c := updateConfig s.config u
  { s with
    config := c
    lut := if u.monitor.isSome || u.lut.isSome then lutTable c.lut c.monitor else s.lut }

/-- `CONFIG cfg` (R231). -/
def execConfig (cfg : ConfigUpdate) (s : State) : Result :=
  checked (if s.lineActive then some .configMidLine else none) s (s.configure cfg)

/-! ## Accesses the block ignores (R96, R97) -/

/-- `W CLXDAT`: ignored, with no preamble (R97, R233). -/
def execWClxdat (_v : Word) (_px : Int) (s : State) : Result := .next s

/-- `W other`: ignored, with no preamble (R96, R233). -/
def execWOther (_addr : Offset) (_v : Word) (_px : Int) (s : State) : Result := .next s

/-- `R other`: any value, and no change of state (R96, log 9). -/
def execROther (_addr : Offset) (s : State) : Result :=
  .next (s.drawFree.respond (.value (Config.freeRead s.freeCount)))

end Sys2Proof.Machine
end

