-- ==== Sys2Proof/Machine/Dispatch.lean ====
section
/-! DEFINITION. The meaning of every operation: one arm per constructor of `Instr`, each a direct call
of its meaning (spec/44_line_frame_control.md R235, "perform op by its rule"). -/

namespace Sys2Proof.Machine

/-- Perform one decoded operation (R235). -/
def exec (i : Instr) (s : State) : Host.Outcome State Fault Refusal :=
  match i with
  | .wClxcon v px => Sys2Proof.Machine.execWClxcon v px s
  | .wDiwstrt v px => Sys2Proof.Machine.execWDiwstrt v px s
  | .wDiwstop v px => Sys2Proof.Machine.execWDiwstop v px s
  | .wBplcon0 v px => Sys2Proof.Machine.execWBplcon0 v px s
  | .wBplcon1 v px => Sys2Proof.Machine.execWBplcon1 v px s
  | .wBplcon2 v px => Sys2Proof.Machine.execWBplcon2 v px s
  | .wBplcon3 v px => Sys2Proof.Machine.execWBplcon3 v px s
  | .wBpl1dat v px => Sys2Proof.Machine.execWBpl1dat v px s
  | .wBpl2dat v px => Sys2Proof.Machine.execWBpl2dat v px s
  | .wBpl3dat v px => Sys2Proof.Machine.execWBpl3dat v px s
  | .wBpl4dat v px => Sys2Proof.Machine.execWBpl4dat v px s
  | .wBpl5dat v px => Sys2Proof.Machine.execWBpl5dat v px s
  | .wBpl6dat v px => Sys2Proof.Machine.execWBpl6dat v px s
  | .wSpr0pos v px => Sys2Proof.Machine.execWSpr0pos v px s
  | .wSpr0ctl v px => Sys2Proof.Machine.execWSpr0ctl v px s
  | .wSpr0data v px => Sys2Proof.Machine.execWSpr0data v px s
  | .wSpr0datb v px => Sys2Proof.Machine.execWSpr0datb v px s
  | .wSpr1pos v px => Sys2Proof.Machine.execWSpr1pos v px s
  | .wSpr1ctl v px => Sys2Proof.Machine.execWSpr1ctl v px s
  | .wSpr1data v px => Sys2Proof.Machine.execWSpr1data v px s
  | .wSpr1datb v px => Sys2Proof.Machine.execWSpr1datb v px s
  | .wSpr2pos v px => Sys2Proof.Machine.execWSpr2pos v px s
  | .wSpr2ctl v px => Sys2Proof.Machine.execWSpr2ctl v px s
  | .wSpr2data v px => Sys2Proof.Machine.execWSpr2data v px s
  | .wSpr2datb v px => Sys2Proof.Machine.execWSpr2datb v px s
  | .wSpr3pos v px => Sys2Proof.Machine.execWSpr3pos v px s
  | .wSpr3ctl v px => Sys2Proof.Machine.execWSpr3ctl v px s
  | .wSpr3data v px => Sys2Proof.Machine.execWSpr3data v px s
  | .wSpr3datb v px => Sys2Proof.Machine.execWSpr3datb v px s
  | .wSpr4pos v px => Sys2Proof.Machine.execWSpr4pos v px s
  | .wSpr4ctl v px => Sys2Proof.Machine.execWSpr4ctl v px s
  | .wSpr4data v px => Sys2Proof.Machine.execWSpr4data v px s
  | .wSpr4datb v px => Sys2Proof.Machine.execWSpr4datb v px s
  | .wSpr5pos v px => Sys2Proof.Machine.execWSpr5pos v px s
  | .wSpr5ctl v px => Sys2Proof.Machine.execWSpr5ctl v px s
  | .wSpr5data v px => Sys2Proof.Machine.execWSpr5data v px s
  | .wSpr5datb v px => Sys2Proof.Machine.execWSpr5datb v px s
  | .wSpr6pos v px => Sys2Proof.Machine.execWSpr6pos v px s
  | .wSpr6ctl v px => Sys2Proof.Machine.execWSpr6ctl v px s
  | .wSpr6data v px => Sys2Proof.Machine.execWSpr6data v px s
  | .wSpr6datb v px => Sys2Proof.Machine.execWSpr6datb v px s
  | .wSpr7pos v px => Sys2Proof.Machine.execWSpr7pos v px s
  | .wSpr7ctl v px => Sys2Proof.Machine.execWSpr7ctl v px s
  | .wSpr7data v px => Sys2Proof.Machine.execWSpr7data v px s
  | .wSpr7datb v px => Sys2Proof.Machine.execWSpr7datb v px s
  | .wColor00 v px => Sys2Proof.Machine.execWColor00 v px s
  | .wColor01 v px => Sys2Proof.Machine.execWColor01 v px s
  | .wColor02 v px => Sys2Proof.Machine.execWColor02 v px s
  | .wColor03 v px => Sys2Proof.Machine.execWColor03 v px s
  | .wColor04 v px => Sys2Proof.Machine.execWColor04 v px s
  | .wColor05 v px => Sys2Proof.Machine.execWColor05 v px s
  | .wColor06 v px => Sys2Proof.Machine.execWColor06 v px s
  | .wColor07 v px => Sys2Proof.Machine.execWColor07 v px s
  | .wColor08 v px => Sys2Proof.Machine.execWColor08 v px s
  | .wColor09 v px => Sys2Proof.Machine.execWColor09 v px s
  | .wColor10 v px => Sys2Proof.Machine.execWColor10 v px s
  | .wColor11 v px => Sys2Proof.Machine.execWColor11 v px s
  | .wColor12 v px => Sys2Proof.Machine.execWColor12 v px s
  | .wColor13 v px => Sys2Proof.Machine.execWColor13 v px s
  | .wColor14 v px => Sys2Proof.Machine.execWColor14 v px s
  | .wColor15 v px => Sys2Proof.Machine.execWColor15 v px s
  | .wColor16 v px => Sys2Proof.Machine.execWColor16 v px s
  | .wColor17 v px => Sys2Proof.Machine.execWColor17 v px s
  | .wColor18 v px => Sys2Proof.Machine.execWColor18 v px s
  | .wColor19 v px => Sys2Proof.Machine.execWColor19 v px s
  | .wColor20 v px => Sys2Proof.Machine.execWColor20 v px s
  | .wColor21 v px => Sys2Proof.Machine.execWColor21 v px s
  | .wColor22 v px => Sys2Proof.Machine.execWColor22 v px s
  | .wColor23 v px => Sys2Proof.Machine.execWColor23 v px s
  | .wColor24 v px => Sys2Proof.Machine.execWColor24 v px s
  | .wColor25 v px => Sys2Proof.Machine.execWColor25 v px s
  | .wColor26 v px => Sys2Proof.Machine.execWColor26 v px s
  | .wColor27 v px => Sys2Proof.Machine.execWColor27 v px s
  | .wColor28 v px => Sys2Proof.Machine.execWColor28 v px s
  | .wColor29 v px => Sys2Proof.Machine.execWColor29 v px s
  | .wColor30 v px => Sys2Proof.Machine.execWColor30 v px s
  | .wColor31 v px => Sys2Proof.Machine.execWColor31 v px s
  | .wClxdat v px => Sys2Proof.Machine.execWClxdat v px s
  | .rClxdat => Sys2Proof.Machine.execRClxdat s
  | .wOther addr v px => Sys2Proof.Machine.execWOther addr v px s
  | .rOther addr => Sys2Proof.Machine.execROther addr s
  | .reset => Sys2Proof.Machine.execReset s
  | .bof lof => Sys2Proof.Machine.execBof lof s
  | .bol vpos vFlop bplDmaLine => Sys2Proof.Machine.execBol vpos vFlop bplDmaLine s
  | .eol vpos => Sys2Proof.Machine.execEol vpos s
  | .eof => Sys2Proof.Machine.execEof s
  | .stable offset => Sys2Proof.Machine.execStable offset s
  | .spren n on px => Sys2Proof.Machine.execSpren n on px s
  | .config cfg => Sys2Proof.Machine.execConfig cfg s

end Sys2Proof.Machine
end

