-- ==== Sys2Proof/Machine/Step.lean ====
section
/-! DEFINITION. One step of the block (spec/44_line_frame_control.md R235). -/

namespace Sys2Proof.Machine

/-- One step (R235): in the fatal state no step is taken; with no operation pending the host pauses and
nothing changes (R82); otherwise the next access word is taken from the input, and either refused,
which the host is told and which changes nothing else, or performed. -/
def step (s : State) : Host.Outcome State Fault Refusal :=
  match s.fatal with
  | some kind => .fault (.runEnded kind)
  | none =>
    match s.input with
    | [] => .next s
    | op :: _ =>
      match decode op with
      | .refused why => .next (s.popInput.respond (.refused why))
      | .instr i => exec i s.popInput

/-- `s` with the access word whose bits are `w` issued as the next operation, with `px = 0` and the
empty record (log 1, log 2). -/
def State.withFetchWord (s : State) (nbits w : Nat) : State :=
  { s with input := { word := BitVec.ofNat 32 (w % 2 ^ nbits) } :: s.input }

end Sys2Proof.Machine
end

