-- ==== Sys2Proof/Safety.lean ====
section
/-! DEFINITION. What counts as a safe run, and the invariants of the block that claims are stated with
(spec/20_memory.md R67 and R69, spec/10_state.md R36, R42 and R43). -/

namespace Sys2Proof.Machine

/-- The run has not ended in a fatal error (R245). -/
def State.running (s : State) : Prop := s.fatal = none

/-- The parameters are in the ranges R8 gives them: `N_FB ≥ 2` and `CHANGE_CAP ≥ 1`. -/
def paramsWf (p : Params) : Prop := 2 ≤ p.nFb ∧ 1 ≤ p.changeCap

/-- A queue is sorted by trigger pixel (R67). -/
def sortedQueue (q : ChangeQueue) : Prop := q.Pairwise fun a b => a.triggerPixel ≤ b.triggerPixel

/-- The queues of a state: `Q_CTRL`, `Q_SPR[0..3]`, `Q_DIW`, `Q_COL` (R66). -/
def State.queues (s : State) : List ChangeQueue :=
  [s.qCtrl, s.qSpr[0], s.qSpr[1], s.qSpr[2], s.qSpr[3], s.qDiw, s.qCol]

/-- Every queue is sorted, holds at most `CHANGE_CAP` records, and holds no negative trigger pixel
(R66, R67, R70). -/
def State.queuesWf (s : State) : Prop :=
  ∀ q ∈ s.queues, sortedQueue q ∧ q.length ≤ s.par.changeCap ∧ ∀ c ∈ q, 0 ≤ c.triggerPixel

/-- Outside a line every queue is empty (R69). -/
def State.boundaryWf (s : State) : Prop := s.lineActive = false → s.queuesEmpty = true

/-- A line is active only inside a frame (R45, R232). -/
def State.sequenceWf (s : State) : Prop := s.lineActive = true → s.frameActive = true

/-- Between operations both armed flags are false and every shift register is 0 (R36). -/
def State.pipelineWf (s : State) : Prop :=
  s.armedOdd = false ∧ s.armedEven = false ∧ s.shift = Vector.replicate 6 0

/-- Each scanline buffer has `HPIXELS` entries (R39). -/
def State.buffersWf (s : State) : Prop :=
  s.buf.rawBits.length = s.par.hpixels ∧ s.buf.borderFlag.length = s.par.hpixels ∧
  s.buf.colorIndex.length = s.par.hpixels ∧ s.buf.multiplexedIndex.length = s.par.hpixels ∧
  s.buf.depthTag.length = s.par.hpixels

/-- A DEPTH field that is 0 or exactly one constant of R41 (R42). -/
def depthLegal (d : Tag) : Prop := d = 0 ∨ isSprDepth d = true ∨ isPfDepth d = true

/-- Every depth tag has a legal DEPTH field (R42). -/
def State.depthWf (s : State) : Prop := ∀ t ∈ s.buf.depthTag, depthLegal (depthOf t)

/-- The lookup table holds `LUT(c)` for every color (R43, R80). -/
def State.lutWf (s : State) : Prop := s.lut = lutTable s.config.lut s.config.monitor

/-- There are `N_FB` frame buffers, the write target is one of them, and the cells of each are in
canonical form (R44). -/
def State.storeWf (s : State) : Prop :=
  s.fb.length = s.par.nFb ∧ s.writeIndex < s.par.nFb ∧ ∀ f ∈ s.fb, f.cells.wf = true

/-- The invariant of the block: everything the rules say holds between operations. -/
structure State.wf (s : State) : Prop where
  par : paramsWf s.par
  queues : s.queuesWf
  boundary : s.boundaryWf
  sequence : s.sequenceWf
  pipeline : s.pipelineWf
  buffers : s.buffersWf
  depth : s.depthWf
  lut : s.lutWf
  store : s.storeWf

/-! ## The replayed registers at a position of the line (R71, R121) -/

/-- The records of a queue for one register that act at or before position `p` (R71). -/
def changesAt (q : ChangeQueue) (id : RegId) (p : Nat) : ChangeQueue :=
  q.filter fun c => decide (c.registerId = id ∧ c.triggerPixel ≤ (p : Int))

/-- A 16-bit register as it is when position `p` is processed: the value of the last record for it with
trigger pixel at most `p`, or the line-start value `old` (R71, R121). -/
def valueAt (q : ChangeQueue) (id : RegId) (old : Word) (p : Nat) : Word :=
  ((changesAt q id p).getLast?.map (·.value)).getD old

/-- The color registers as they are when position `p` is processed, 12 bits of each value (R71, R185). -/
def colorsAt (q : ChangeQueue) (old : Vector Color 32) (p : Nat) : Vector Color 32 :=
  Vector.ofFn fun n => ((changesAt q (.color n) p).getLast?.map (·.value.extractLsb' 0 12)).getD old[n]

/-- A queue the host can leave before a line ends: sorted, with no negative trigger pixel (R67, R70). -/
def replayable (q : ChangeQueue) : Prop := sortedQueue q ∧ ∀ c ∈ q, 0 ≤ c.triggerPixel

/-! ## The replayed copies of BPLCON0 (R24) -/

/-- The `BPLCON0` records of a queue, in order. -/
def bplcon0Changes (q : ChangeQueue) : ChangeQueue := q.filter fun c => decide (c.registerId = .bplcon0)

/-- The three replayed copies of `BPLCON0` are equal, and so are the `BPLCON0` records that wait in
the three queues they are replayed from (R24, R66). -/
def State.copiesWf (s : State) : Prop :=
  s.ctrl.bplcon0 = s.diw.bplcon0 ∧ s.ctrl.bplcon0 = s.col.bplcon0 ∧
  bplcon0Changes s.qCtrl = bplcon0Changes s.qDiw ∧ bplcon0Changes s.qCtrl = bplcon0Changes s.qCol

/-! ## Errors and checks (R233, R246, R247) -/

/-- The trigger pixel of an operation that begins with `WritePre(px)`, on a chip (R233, R193). -/
def preamblePx (chip : Chip) : Instr → Option Int
  | .wBplcon3 _ px => if chip = .ecs then some px else none
  | .wClxcon _ px | .wDiwstrt _ px | .wDiwstop _ px | .wBplcon0 _ px | .wBplcon1 _ px
  | .wBplcon2 _ px | .wBpl1dat _ px | .wBpl2dat _ px | .wBpl3dat _ px | .wBpl4dat _ px
  | .wBpl5dat _ px | .wBpl6dat _ px | .wSpr0pos _ px | .wSpr0ctl _ px | .wSpr0data _ px
  | .wSpr0datb _ px | .wSpr1pos _ px | .wSpr1ctl _ px | .wSpr1data _ px | .wSpr1datb _ px
  | .wSpr2pos _ px | .wSpr2ctl _ px | .wSpr2data _ px | .wSpr2datb _ px | .wSpr3pos _ px
  | .wSpr3ctl _ px | .wSpr3data _ px | .wSpr3datb _ px | .wSpr4pos _ px | .wSpr4ctl _ px
  | .wSpr4data _ px | .wSpr4datb _ px | .wSpr5pos _ px | .wSpr5ctl _ px | .wSpr5data _ px
  | .wSpr5datb _ px | .wSpr6pos _ px | .wSpr6ctl _ px | .wSpr6data _ px | .wSpr6datb _ px
  | .wSpr7pos _ px | .wSpr7ctl _ px | .wSpr7data _ px | .wSpr7datb _ px | .wColor00 _ px
  | .wColor01 _ px | .wColor02 _ px | .wColor03 _ px | .wColor04 _ px | .wColor05 _ px
  | .wColor06 _ px | .wColor07 _ px | .wColor08 _ px | .wColor09 _ px | .wColor10 _ px
  | .wColor11 _ px | .wColor12 _ px | .wColor13 _ px | .wColor14 _ px | .wColor15 _ px
  | .wColor16 _ px | .wColor17 _ px | .wColor18 _ px | .wColor19 _ px | .wColor20 _ px
  | .wColor21 _ px | .wColor22 _ px | .wColor23 _ px | .wColor24 _ px | .wColor25 _ px
  | .wColor26 _ px | .wColor27 _ px | .wColor28 _ px | .wColor29 _ px | .wColor30 _ px
  | .wColor31 _ px | .spren _ _ px => some px
  | .wClxdat _ _ | .wOther _ _ _ | .rClxdat | .rOther _ | .reset | .bof _ | .bol _ _ _ | .eol _
  | .eof | .stable _ | .config _ => none

/-- The queues that an operation inserts a record into (R66). -/
def State.targetQueues (s : State) : Instr → List ChangeQueue
  | .wBplcon0 _ _ => [s.qCtrl, s.qDiw, s.qCol]
  | .wBplcon2 _ _ => [s.qCtrl]
  | .wDiwstrt _ _ | .wDiwstop _ _ | .wBplcon3 _ _ => [s.qDiw]
  | .wSpr0pos _ _ | .wSpr0ctl _ _ | .wSpr0data _ _ | .wSpr0datb _ _ | .wSpr1pos _ _
  | .wSpr1ctl _ _ | .wSpr1data _ _ | .wSpr1datb _ _ => [s.qSpr[0]]
  | .wSpr2pos _ _ | .wSpr2ctl _ _ | .wSpr2data _ _ | .wSpr2datb _ _ | .wSpr3pos _ _
  | .wSpr3ctl _ _ | .wSpr3data _ _ | .wSpr3datb _ _ => [s.qSpr[1]]
  | .wSpr4pos _ _ | .wSpr4ctl _ _ | .wSpr4data _ _ | .wSpr4datb _ _ | .wSpr5pos _ _
  | .wSpr5ctl _ _ | .wSpr5data _ _ | .wSpr5datb _ _ => [s.qSpr[2]]
  | .wSpr6pos _ _ | .wSpr6ctl _ _ | .wSpr6data _ _ | .wSpr6datb _ _ | .wSpr7pos _ _
  | .wSpr7ctl _ _ | .wSpr7data _ _ | .wSpr7datb _ _ => [s.qSpr[3]]
  | .spren n _ _ => [s.qSpr[pairOf n.toFin]]
  | .wColor00 _ _ | .wColor01 _ _ | .wColor02 _ _ | .wColor03 _ _ | .wColor04 _ _ | .wColor05 _ _
  | .wColor06 _ _ | .wColor07 _ _ | .wColor08 _ _ | .wColor09 _ _ | .wColor10 _ _ | .wColor11 _ _
  | .wColor12 _ _ | .wColor13 _ _ | .wColor14 _ _ | .wColor15 _ _ | .wColor16 _ _ | .wColor17 _ _
  | .wColor18 _ _ | .wColor19 _ _ | .wColor20 _ _ | .wColor21 _ _ | .wColor22 _ _ | .wColor23 _ _
  | .wColor24 _ _ | .wColor25 _ _ | .wColor26 _ _ | .wColor27 _ _ | .wColor28 _ _ | .wColor29 _ _
  | .wColor30 _ _ | .wColor31 _ _ => [s.qCol]
  | .wClxcon _ _ | .wBplcon1 _ _ | .wBpl1dat _ _ | .wBpl2dat _ _ | .wBpl3dat _ _ | .wBpl4dat _ _
  | .wBpl5dat _ _ | .wBpl6dat _ _ | .wClxdat _ _ | .wOther _ _ _ | .rClxdat | .rOther _ | .reset
  | .bof _ | .bol _ _ _ | .eol _ | .eof | .stable _ | .config _ => []

/-- When an operation raises a fatal error of each kind: the causes of R246 in the order of R247. -/
def State.raises (s : State) (i : Instr) : FatalKind → Prop
  | .queueNotEmpty => ∃ vpos v d, i = .bol vpos v d ∧ s.frameActive = true ∧ s.lineActive = false ∧
      ∃ q ∈ s.queues, q ≠ []
  | .queueOverflow => s.lineActive = true ∧ (∃ px, preamblePx s.par.chip i = some px ∧ 0 ≤ px) ∧
      ∃ q ∈ s.targetQueues i, q.length = s.par.changeCap
  | .negativeTriggerPixel => s.lineActive = true ∧ ∃ px, preamblePx s.par.chip i = some px ∧ px < 0
  | .sequenceError =>
      ((∃ lof, i = .bof lof) ∧ (s.frameActive = true ∨ s.lineActive = true)) ∨
      ((∃ vpos v d, i = .bol vpos v d) ∧ (s.frameActive = false ∨ s.lineActive = true)) ∨
      (∃ vpos, i = .eol vpos ∧ (s.lineActive = false ∨ vpos ≠ s.curVpos)) ∨
      (i = .eof ∧ (s.frameActive = false ∨ s.lineActive = true))
  | .pokeOutsideLine => s.lineActive = false ∧ ∃ px, preamblePx s.par.chip i = some px
  | .configMidLine => (∃ u, i = .config u) ∧ s.lineActive = true

/-- What a register write that is not queued does: the two checks of the preamble, in their order,
and otherwise `effect` (R233, R247). -/
def immediateWrite (i : Instr) (px : Int) (s effect : State) : Prop :=
  (s.lineActive = false → exec i s = .next (s.raiseFatal .pokeOutsideLine)) ∧
  (s.lineActive = true → px < 0 → exec i s = .next (s.raiseFatal .negativeTriggerPixel)) ∧
  (s.lineActive = true → 0 ≤ px → exec i s = .next effect)

/-- What a register write into the queues `qs` does: the two checks of the preamble, then the check for
room, and otherwise `effect` (R67, R233, R247). -/
def queuedWrite (i : Instr) (px : Int) (qs : List ChangeQueue) (s effect : State) : Prop :=
  (s.lineActive = false → exec i s = .next (s.raiseFatal .pokeOutsideLine)) ∧
  (s.lineActive = true → px < 0 → exec i s = .next (s.raiseFatal .negativeTriggerPixel)) ∧
  (s.lineActive = true → 0 ≤ px → (∃ q ∈ qs, q.length = s.par.changeCap) →
    exec i s = .next (s.raiseFatal .queueOverflow)) ∧
  (s.lineActive = true → 0 ≤ px → (∀ q ∈ qs, q.length ≠ s.par.changeCap) → exec i s = .next effect)

/-! ## The drawn bits (R115 to R119) -/

/-- The scroll of the group that plane index `i` belongs to (R94, R116). -/
def planeScroll (bplcon1 : Word) (i : Nat) : Nat :=
  if i % 2 = 0 then 2 * (bplcon1.extractLsb' 0 4).toNat else 2 * (bplcon1.extractLsb' 4 4).toNat

/-- Bit `j` of the raw entry at `p` after a `BPL1DAT` write at `px`, where `words` are the six data
words that the pipeline loads: pixel `k` of a plane is bit 15 - k of its word, one pixel covers two
positions in LORES, one in HIRES and half a one in SHRES, a plane that is off or hidden shows 0, and a
bit that is not covered keeps its value. -/
def drawnBit (s : State) (words : Vector Word 6) (px : Int) (p : Nat) (j : Fin 6) : Bool :=
  let old := (pixelAt s.buf.rawBits p).getLsbD j.val
  let shown (i : Fin 6) (k : Nat) : Bool :=
    decide (i.val < effBpu s.par.chip s.reg.bplcon0) && !s.config.hiddenPlanes.getLsbD i.val &&
      words[i].getLsbD (15 - k)
  let d : Int := p - (px + planeScroll s.reg.bplcon1 j.val)
  match resolution s.par.chip s.reg.bplcon0 with
  | .lores => if 0 ≤ d ∧ d < 32 then shown j (d / 2).toNat else old
  | .hires => if 0 ≤ d ∧ d < 16 then shown j d.toNat else old
  | .shres => if j.val < 4 ∧ 0 ≤ d ∧ d < 8 then shown (Fin.ofNat 6 (j.val % 2)) (2 * d.toNat + j.val / 2)
      else old

end Sys2Proof.Machine
end

