-- ==== Sys2Proof/Certificates/Slice0/Obligations.lean ====
section
/-! DEFINITION. The statements for the provers, in the order of OBLIGATIONS.json. -/

open Sys2Proof Sys2Proof.Machine

/-! ## Encoding (spec/30_encoding.md) -/

/-- R90, R92, R93: decoding the encoding of a well-formed operation gives it back, with every operand. -/
def Obligations.EncodedOperationsDecodeToThemselves : Prop :=
  ∀ i : Instr, i.wellFormed = true → decode (encode i) = .instr i

/-- R90, R95: whatever decodes is a well-formed operation whose encoding is the word that was read;
of a read, VALUE is ignored. -/
def Obligations.DecodedWordsEncodeBack : Prop :=
  ∀ (op : HostOp) (i : Instr), decode op = .instr i →
    i.wellFormed = true ∧
    (encode i).word.extractLsb' 0 16 = op.word.extractLsb' 0 16 ∧
    (op.word.getLsbD 10 = true ∨ op.word.getLsbD 9 = true → (encode i).word = op.word)

/-- R92, R95: the words the decoder refuses, spelled out bit by bit. -/
def Obligations.RefusedWordsAreTheReservedOnes : Prop :=
  ∀ op : HostOp,
    let w := op.word
    let arg := w.extractLsb' 16 16
    let ev := (w.extractLsb' 0 4).toNat
    (∃ why, decode op = .refused why) ↔
      w.extractLsb' 11 5 ≠ 0 ∨
      (w.getLsbD 10 = false ∧ w.getLsbD 0 = true) ∨
      (w.getLsbD 10 = true ∧
        (w.extractLsb' 6 4 ≠ 0 ∨ 8 ≤ ev ∨
         ((ev = 0 ∨ ev = 4 ∨ ev = 7) ∧ (arg ≠ 0 ∨ w.getLsbD 4 = true ∨ w.getLsbD 5 = true)) ∨
         (ev = 1 ∧ (arg ≠ 0 ∨ w.getLsbD 5 = true)) ∨
         ((ev = 3 ∨ ev = 5) ∧ (w.getLsbD 4 = true ∨ w.getLsbD 5 = true)) ∨
         (ev = 6 ∧ (arg.extractLsb' 3 13 ≠ 0 ∨ w.getLsbD 5 = true))))

/-- R93, R101: words written out from the formats decode to the operations they stand for. -/
def Obligations.SpelledWordsDecode : Prop :=
  decode { word := 0x0F000382#32, px := 200 } = .instr (.wColor01 0x0F00 200) ∧
  decode { word := 0x22000300#32, px := 0 } = .instr (.wBplcon0 0x2200 0) ∧
  decode { word := 0x8000035C#32, px := 7 } = .instr (.wSpr3data 0x8000 7) ∧
  decode { word := 0x0000000E#32 } = .instr .rClxdat ∧
  decode { word := 0x002C0432#32 } = .instr (.bol 44 true true) ∧
  decode { word := 0x00030416#32, px := 100 } = .instr (.spren 3 true 100) ∧
  decode { word := 0x00030406#32, px := 100 } = .instr (.spren 3 false 100)

/-! ## The step (spec/44_line_frame_control.md R235, spec/60_exceptions.md) -/

/-- R235: a step with a legal word pending performs the decoded operation on the state that has this
operation taken out of the input. That the pending operations stand in the field `input`, and that a
step takes the first of them out of it, is the model's choice (log 1). -/
def Obligations.StepRunsTheDecodedOperation : Prop :=
  ∀ (s : State) (op : HostOp) (rest : List HostOp) (i : Instr),
    s.fatal = none → s.input = op :: rest → decode op = .instr i →
    step s = exec i { s with input := rest }

/-- R95, R250: a refused word is taken from the input, the host is told, and nothing else changes. That
the word stands in the field `input` and is taken out of it is the model's choice (log 1), and so is
how the host is told (log 3). -/
def Obligations.RefusedWordsOnlyTellTheHost : Prop :=
  ∀ (s : State) (op : HostOp) (rest : List HostOp) (why : RefuseReason),
    s.fatal = none → s.input = op :: rest → decode op = .refused why →
    step s = .next { s with input := rest, responses := s.responses ++ [.refused why] }

/-- R245, R82: in the fatal state no step is taken, whatever operation is pending, and with no
operation pending a running machine does not change. That the stopped machine answers the fault
`runEnded` is the model's choice (log 4), and that an empty `input` is the pause of R82 is another
(log 1). -/
def Obligations.FatalStateTakesNoStepAndPausesChangeNothing : Prop :=
  (∀ (s : State) (kind : FatalKind), s.fatal = some kind → step s = .fault (.runEnded kind)) ∧
  (∀ s : State, s.fatal = none → s.input = [] → step s = .next s)

/-- R15, R245, R252: every operation completes in one step, and if it raises a fatal error it has no
other effect. -/
def Obligations.OperationsCompleteOrFailPrecisely : Prop :=
  ∀ (i : Instr) (s : State), ∃ t, exec i s = .next t ∧
    ((∃ kind, t = s.raiseFatal kind) ∨ t.fatal = s.fatal ∨ (i = .reset ∧ t.fatal = none))

/-- R246, R247: an operation raises a fatal error of a kind exactly when the cause of that kind is
there. -/
def Obligations.FatalErrorsHaveTheirCauses : Prop :=
  ∀ (i : Instr) (s : State) (kind : FatalKind), s.fatal = none →
    ((∃ t, exec i s = .next t ∧ t.fatal = some kind) ↔ s.raises i kind)

/-- R46: the parameters never change, and only CONFIG changes the configuration. -/
def Obligations.OnlyConfigChangesTheConfiguration : Prop :=
  ∀ (i : Instr) (s t : State), exec i s = .next t →
    t.par = s.par ∧ ((∀ u, i ≠ .config u) → t.config = s.config)

/-! ## Change queues and replay (spec/20_memory.md) -/

/-- R67: in a sorted queue the new record goes after every record whose trigger pixel is at most its
own and before the others. -/
def Obligations.EnqueueInsertsAfterEqualPixels : Prop :=
  ∀ (c : Change) (q : ChangeQueue), sortedQueue q →
    enqueue c q = q.filter (fun x => decide (x.triggerPixel ≤ c.triggerPixel)) ++
      c :: q.filter (fun x => decide (c.triggerPixel < x.triggerPixel))

/-- R68, R71: over a sorted queue with no negative trigger pixel, the replay is the loop over the
positions that applies the changes of a position, in queue order, right before processing it, and at
the end applies the changes past the line. -/
def Obligations.ReplayAppliesEachChangeAtItsPixel : Prop :=
  ∀ (σ : Type) (hpixels : Nat) (apply : σ → Change → σ) (pixel : σ → Nat → σ) (q : ChangeQueue)
    (st : σ), sortedQueue q → (∀ c ∈ q, 0 ≤ c.triggerPixel) →
    replay hpixels apply pixel q st =
      (q.filter fun c => decide ((hpixels : Int) ≤ c.triggerPixel)).foldl apply
        ((List.range hpixels).foldl
          (fun x (p : Nat) => pixel ((q.filter fun c => decide (c.triggerPixel = Int.ofNat p)).foldl apply x) p)
          st)

/-! ## Invariants that every step keeps -/

/-- R67, R70, R273: every queue stays sorted, within its capacity, and free of negative pixels. -/
def Obligations.StepKeepsQueuesSorted : Prop :=
  ∀ s t : State, s.queuesWf → step s = .next t → t.queuesWf

/-- R69, R232: outside a line every queue is empty, and a line is active only inside a frame. -/
def Obligations.StepKeepsLineBoundaries : Prop :=
  ∀ s t : State, s.boundaryWf ∧ s.sequenceWf → step s = .next t → t.boundaryWf ∧ t.sequenceWf

/-- R69: where every queue is empty outside a line, the check for an empty queue never fails. -/
def Obligations.QueueNotEmptyNeverFires : Prop :=
  ∀ s t : State, s.boundaryWf → step s = .next t → t.fatal ≠ some .queueNotEmpty

/-- R24: the three replayed copies of `BPLCON0` stay equal, together with the records they are replayed
from, in every step but a RESET under the policy `arbitrary`, which draws each copy freely (R266; that
it draws them independently is the model's choice, log 21). -/
def Obligations.StepKeepsReplayedCopiesEqual : Prop :=
  ∀ s t : State,
    (s.par.resetPolicy = .zero ∨
      ∀ (op : HostOp) (rest : List HostOp), s.input = op :: rest → decode op ≠ .instr .reset) →
    s.queuesWf → s.copiesWf → step s = .next t → t.copiesWf

/-- R42: the DEPTH field of every depth tag stays 0 or exactly one constant of R41. -/
def Obligations.StepKeepsDepthTagsLegal : Prop :=
  ∀ s t : State, s.depthWf → step s = .next t → t.depthWf

/-- R44, R74: there stay `N_FB` frame buffers with the write target among them, and (the model's
choice, log 14) the cells of each stay in canonical form. -/
def Obligations.StepKeepsFrameStoreCanonical : Prop :=
  ∀ s t : State, paramsWf s.par → s.storeWf → step s = .next t → t.storeWf

/-- R36, R39, R43: between operations the armed flags are false and the shift registers 0, the
scanline buffers have `HPIXELS` entries each, and the lookup table is the table of its function. -/
def Obligations.StepKeepsPipelineBuffersAndTable : Prop :=
  ∀ s t : State, s.pipelineWf → s.buffersWf → s.lutWf → step s = .next t →
    t.pipelineWf ∧ t.buffersWf ∧ t.lutWf

/-- R265: the reset state satisfies every invariant above. That `State.reset` is the reset under the
policy `zero`, on which the equal copies of `BPLCON0` rest, is the model's choice (log 11). -/
def Obligations.ResetStateIsWellFormed : Prop := State.reset.wf ∧ State.reset.copiesWf

/-! ## The bitplane pipeline (spec/40_bitplane_pipeline.md) -/

/-- R112, R110, R120: a `BPLCON0` write goes into three queues and the immediate copy, and logs an
unusual plane count. -/
def Obligations.WriteBplcon0QueuesThreeCopies : Prop :=
  ∀ (v : Word) (px : Int) (s : State),
    let c : Change := { triggerPixel := px, registerId := .bplcon0, value := v }
    let n := (v.extractLsb' 12 3).toNat
    let unusual : Bool := match resolution s.par.chip v with
      | .lores => n == 7
      | .hires => decide (5 ≤ n)
      | .shres => decide (3 ≤ n)
    queuedWrite (.wBplcon0 v px) px [s.qCtrl, s.qDiw, s.qCol] s
      { s with
        qCtrl := enqueue c s.qCtrl
        qDiw := enqueue c s.qDiw
        qCol := enqueue c s.qCol
        reg := { s.reg with bplcon0 := v }
        diagLog := s.diagLog ++ (if unusual then [{ kind := .unusualBpu, value := v }] else []) }

/-- R113, R114, R165: the writes that only store a register, and change nothing else. -/
def Obligations.ImmediateWritesStoreTheirRegister : Prop :=
  ∀ (v : Word) (px : Int) (s : State),
    immediateWrite (.wBplcon1 v px) px s { s with reg := { s.reg with bplcon1 := v } } ∧
    immediateWrite (.wClxcon v px) px s { s with reg := { s.reg with clxcon := v } } ∧
    immediateWrite (.wBpl2dat v px) px s { s with bpldat := s.bpldat.set 1 v } ∧
    immediateWrite (.wBpl3dat v px) px s { s with bpldat := s.bpldat.set 2 v } ∧
    immediateWrite (.wBpl4dat v px) px s { s with bpldat := s.bpldat.set 3 v } ∧
    immediateWrite (.wBpl5dat v px) px s { s with bpldat := s.bpldat.set 4 v } ∧
    immediateWrite (.wBpl6dat v px) px s { s with bpldat := s.bpldat.set 5 v }

/-- R115 to R119: a `BPL1DAT` write loads the pipeline and draws both groups; the raw entries it
leaves are given bit by bit, and nothing else changes. -/
def Obligations.WriteBpl1datDrawsSixteenPixels : Prop :=
  ∀ (v : Word) (px : Int) (s : State),
    let words := s.bpldat.set 0 v
    (s.lineActive = false → exec (.wBpl1dat v px) s = .next (s.raiseFatal .pokeOutsideLine)) ∧
    (s.lineActive = true → px < 0 →
      exec (.wBpl1dat v px) s = .next (s.raiseFatal .negativeTriggerPixel)) ∧
    (s.lineActive = true → 0 ≤ px → s.buf.rawBits.length = s.par.hpixels →
      ∃ raw : List (BitVec 6),
        exec (.wBpl1dat v px) s = .next
          { s with
            bpldat := words
            pipe := words
            shift := Vector.replicate 6 0
            armedOdd := false
            armedEven := false
            buf := { s.buf with rawBits := raw } } ∧
        raw.length = s.par.hpixels ∧
        ∀ p < s.par.hpixels, ∀ j : Fin 6, (pixelAt raw p).getLsbD j.val = drawnBit s words px p j)

/-! ## The playfield translator (spec/41_playfield_translator.md) -/

/-- R133, R134: a pixel in single-playfield mode, outside SHRES. -/
def Obligations.SinglePlayfieldPixelsFollowTheQuirk : Prop :=
  ∀ (chip : Chip) (st : Ctrl) (r : BitVec 6),
    resolution chip st.bplcon0 ≠ .shres → st.bplcon0.getLsbD 10 = false →
    let x := translateRaw chip st r
    let code := st.bplcon2.extractLsb' 3 3
    (code.toNat ≤ 4 → x.1 = r ∧ depthOf x.2 = if r = 0 then 0 else zPf code) ∧
    (5 ≤ code.toNat → depthOf x.2 = 0 ∧
      x.1 = if st.bplcon0.getLsbD 11 = false ∧ r.getLsbD 4 = true then r &&& 0x30#6 else r) ∧
    tagHas x.2 pf1Solid = (x.1 &&& 0x15#6 != 0) ∧ tagHas x.2 pf2Solid = (x.1 &&& 0x2A#6 != 0) ∧
    x.2 &&& ~~~(depthMask ||| pf1Solid ||| pf2Solid) = 0

/-- R135, R136: a pixel in dual-playfield mode; an illegal priority makes its playfield transparent,
and two transparent playfields give exactly the tag DPF. -/
def Obligations.DualPlayfieldPixelsShowTheFrontOne : Prop :=
  ∀ (chip : Chip) (st : Ctrl) (r : BitVec 6),
    resolution chip st.bplcon0 ≠ .shres → st.bplcon0.getLsbD 10 = true →
    let x := translateRaw chip st r
    let code1 := st.bplcon2.extractLsb' 0 3
    let code2 := st.bplcon2.extractLsb' 3 3
    let front2 := st.bplcon2.getLsbD 6
    let a := if code1.toNat ≤ 4 then
      (r.getLsbD 0).toNat + 2 * (r.getLsbD 2).toNat + 4 * (r.getLsbD 4).toNat else 0
    let b := if code2.toNat ≤ 4 then
      (r.getLsbD 1).toNat + 2 * (r.getLsbD 3).toNat + 4 * (r.getLsbD 5).toNat else 0
    (a = 0 ∧ b = 0 → x = (0, 0x00000004#32)) ∧
    (a ≠ 0 ∧ (front2 = false ∨ b = 0) →
      x.1.toNat = a ∧ depthOf x.2 = zPf code1 ∧ tagHas x.2 visPf2 = false) ∧
    (b ≠ 0 ∧ (front2 = true ∨ a = 0) →
      x.1.toNat = b + 8 ∧ depthOf x.2 = zPf code2 ∧ tagHas x.2 visPf2 = true) ∧
    tagHas x.2 dpfFlag = true ∧ tagHas x.2 pf1Solid = (a != 0) ∧ tagHas x.2 pf2Solid = (b != 0) ∧
    x.2 &&& ~~~(depthMask ||| 0x17#32) = 0

/-- R137: a position in SHRES mode. -/
def Obligations.ShresPositionsPackTwoPixels : Prop :=
  ∀ (chip : Chip) (st : Ctrl) (r : BitVec 6), resolution chip st.bplcon0 = .shres →
    let x := translateRaw chip st r
    let code := st.bplcon2.extractLsb' 3 3
    x.1 = (r.extractLsb' 0 4).setWidth 6 ∧
    depthOf x.2 = (if x.1 ≠ 0 ∧ code.toNat ≤ 4 then zPf code else 0) ∧
    tagHas x.2 shresPix = true ∧
    tagHas x.2 pf1Solid = (r.getLsbD 0 || r.getLsbD 2) ∧
    tagHas x.2 pf2Solid = (r.getLsbD 1 || r.getLsbD 3) ∧
    x.2 &&& ~~~(depthMask ||| 0x23#32) = 0

/-- R138: what the translator leaves at every position, and what the sprite passes may change of it. -/
def Obligations.TranslationKeepsItsOutputContract : Prop :=
  (∀ s : State, s.buffersWf → ∀ p < s.par.hpixels,
    let b := s.translate.buf
    pixelAt b.multiplexedIndex p = (pixelAt b.colorIndex p).setWidth 7 ∧
    (depthOf (pixelAt b.depthTag p) = 0 ∨ isPfDepth (depthOf (pixelAt b.depthTag p)) = true) ∧
    pixelAt b.depthTag p &&& (0xFF00#32 ||| sprUnder) = 0) ∧
  (∀ s : State,
    let b := s.spriteLines.buf
    b.colorIndex = s.buf.colorIndex ∧ b.rawBits = s.buf.rawBits ∧ b.borderFlag = s.buf.borderFlag ∧
    ∀ p : Nat, pixelAt b.depthTag p &&& ~~~(depthMask ||| 0xFF00#32 ||| sprUnder) =
      pixelAt s.buf.depthTag p &&& ~~~(depthMask ||| 0xFF00#32 ||| sprUnder))

/-- R71, R121, R131, R132, R141: every position is translated, in every mode, with the registers as they
are after exactly the changes whose trigger pixel is at most the position: its color index, its depth tag
and its palette index. So on a line with no queued change each position is the translation of its raw
bits by the registers of the line start; and there, in single-playfield mode outside SHRES and with the
quirk condition false everywhere, the color indices are the raw bits. -/
def Obligations.UnchangedLinesTranslateDirectly : Prop :=
  (∀ s : State, s.buffersWf → replayable s.qCtrl → ∀ p < s.par.hpixels,
    let b := s.translate.buf
    let st : Ctrl :=
      { bplcon0 := valueAt s.qCtrl .bplcon0 s.ctrl.bplcon0 p
        bplcon2 := valueAt s.qCtrl .bplcon2 s.ctrl.bplcon2 p }
    let x := translateRaw s.par.chip st (pixelAt s.buf.rawBits p)
    pixelAt b.colorIndex p = x.1 ∧ pixelAt b.depthTag p = x.2 ∧
      pixelAt b.multiplexedIndex p = x.1.setWidth 7) ∧
  (∀ s : State, s.buffersWf → s.qCtrl = [] → ∀ p < s.par.hpixels,
    (pixelAt s.translate.buf.colorIndex p, pixelAt s.translate.buf.depthTag p) =
      translateRaw s.par.chip s.ctrl (pixelAt s.buf.rawBits p)) ∧
  (∀ s : State, s.buffersWf → s.qCtrl = [] →
    resolution s.par.chip s.ctrl.bplcon0 ≠ .shres → s.ctrl.bplcon0.getLsbD 10 = false →
    (∀ p < s.par.hpixels, ¬ (5 ≤ (s.ctrl.bplcon2.extractLsb' 3 3).toNat ∧
      s.ctrl.bplcon0.getLsbD 11 = false ∧ (pixelAt s.buf.rawBits p).getLsbD 4 = true)) →
    s.translate.buf.colorIndex = s.buf.rawBits)

/-- R142: the translator's output depends on the raw bits, `ctrl` and the records of `Q_CTRL` only; its
lasting effect is the new `ctrl`, each field the value of the last change to it. -/
def Obligations.TranslationIsStateless : Prop :=
  (∀ s t : State, s.buffersWf → t.buffersWf → s.par = t.par → s.buf.rawBits = t.buf.rawBits →
    s.ctrl = t.ctrl → s.qCtrl = t.qCtrl →
    s.translate.ctrl = t.translate.ctrl ∧
    s.translate.buf.colorIndex = t.translate.buf.colorIndex ∧
    s.translate.buf.multiplexedIndex = t.translate.buf.multiplexedIndex ∧
    s.translate.buf.depthTag = t.translate.buf.depthTag) ∧
  (∀ s : State,
    let t := s.translate
    t = { s with
      ctrl := t.ctrl
      qCtrl := []
      buf := { s.buf with colorIndex := t.buf.colorIndex, multiplexedIndex := t.buf.multiplexedIndex,
                          depthTag := t.buf.depthTag } } ∧
    t.ctrl.bplcon0 = (((s.qCtrl.filter fun c => decide (c.registerId = .bplcon0)).getLast?).map
      (·.value)).getD s.ctrl.bplcon0 ∧
    t.ctrl.bplcon2 = (((s.qCtrl.filter fun c => decide (c.registerId = .bplcon2)).getLast?).map
      (·.value)).getD s.ctrl.bplcon2)

/-- R139, R140: a `BPLCON2` write is queued, and logs a priority out of range. -/
def Obligations.WriteBplcon2IsQueued : Prop :=
  ∀ (v : Word) (px : Int) (s : State),
    queuedWrite (.wBplcon2 v px) px [s.qCtrl] s
      { s with
        qCtrl := enqueue { triggerPixel := px, registerId := .bplcon2, value := v } s.qCtrl
        diagLog := s.diagLog ++
          (if 5 ≤ (v.extractLsb' 0 3).toNat ∨ 5 ≤ (v.extractLsb' 3 3).toNat then
            [{ kind := .priorityOutOfRange, value := v }] else []) }

/-! ## Sprites (spec/42_sprites_collision.md) -/

/-- R151 to R154: every sprite register write is one record in the queue of the sprite's pair. -/
def Obligations.SpriteRegisterWritesAreQueued : Prop :=
  ∀ (x : Fin 8) (v : Word) (px : Int) (s : State),
    let k := pairOf x
    let queued (id : RegId) : State :=
      let c : Change := { triggerPixel := px, registerId := id, value := v }
      { s with qSpr := s.qSpr.set k (enqueue c s.qSpr[k]) }
    queuedWrite (sprPosWrite x v px) px [s.qSpr[k]] s (queued (.sprPos x)) ∧
    queuedWrite (sprCtlWrite x v px) px [s.qSpr[k]] s (queued (.sprCtl x)) ∧
    queuedWrite (sprDataWrite x v px) px [s.qSpr[k]] s (queued (.sprData x)) ∧
    queuedWrite (sprDatbWrite x v px) px [s.qSpr[k]] s (queued (.sprDatb x))

/-- R155: a sprite enable event is queued with the mode it has when it arrives. That the mode stands in
the record's identifier beside the value 1 or 0 is the model's choice (log 12). -/
def Obligations.SpriteEnableEventsFixTheirMode : Prop :=
  ∀ (n : BitVec 3) (on : Bool) (px : Int) (s : State),
    let x : Fin 8 := n.toFin
    let k := pairOf x
    let mode : SprenMode := if on = true then .enable
      else if px < (s.par.sprFetchStart : Int) then .disableNow else .disableNextLine
    let c : Change :=
      { triggerPixel := px, registerId := .spren x mode, value := if on = true then 1 else 0 }
    queuedWrite (.spren n on px) px [s.qSpr[k]] s
      { s with qSpr := s.qSpr.set k (enqueue c s.qSpr[k]) }

/-- R151 to R155: what a replayed record does to the eight units. That the mode of a SPREN record stands
in its identifier and decides, whatever the record's value, is the model's choice (log 12). -/
def Obligations.SpriteChangesReachTheirUnit : Prop :=
  ∀ (spr : Vector Sprite 8) (x y : Fin 8) (px : Int) (v : Word),
    let after (id : RegId) : Sprite :=
      (applySprRegs spr { triggerPixel := px, registerId := id, value := v })[y]
    let u := spr[y]
    after (.sprPos x) = (if y = x then { u with pos := v } else u) ∧
    after (.sprCtl x) = (if y = x then { u with ctl := v, armed := false } else u) ∧
    after (.sprData x) = (if y = x then { u with dataA := v, armed := true } else u) ∧
    after (.sprDatb x) = (if y = x then { u with dataB := v } else u) ∧
    after (.spren x .enable) =
      (if y = x then { u with enabled := true, pendingDisable := false } else u) ∧
    after (.spren x .disableNow) =
      (if y = x then { u with enabled := false, pendingDisable := false } else u) ∧
    after (.spren x .disableNextLine) = (if y = x then { u with pendingDisable := true } else u)

/-- R150, R157 to R159, R161, R162: a unit loads both data words exactly where it is armed and the position is
twice its start; after a load it shows 16 pixels of two positions each and then nothing; one position
of a pair's pass marks, offers and shifts in this order and touches no other unit; the pass goes over the
positions and applies the changes of a position right before it (R71), and those past the line at the
end; and over a line with no queued change, from cleared shift registers (R174), every position shows the
pair's selectors, each counted from its sprite's start. -/
def Obligations.SpritesShowSixteenDoublePixels : Prop :=
  let start (u : Sprite) : Nat :=
    2 * (2 * (u.pos.extractLsb' 0 8).toNat + (u.ctl.extractLsb' 0 1).toNat)
  let inWindow (d : SpriteParams) (u : Sprite) (x : Fin 8) (p : Nat) : Prop :=
    u.enabled = true ∧ d.hidden.getLsbD x.val = false ∧ d.clipBegin.toNat ≤ p ∧ p < d.clipEnd.toNat
  -- what the selectors of a pair draw on a pixel (R157, R161)
  let draw (k : Fin 4) (attach : Bool) (se so : BitVec 2) (x : SpritePixel) : SpritePixel :=
    let e := evenSprite k
    let marked : SpritePixel := (x.1,
      x.2 ||| (if se = 0 then 0 else 1#32 <<< (8 + 2 * k.val)) |||
        (if so = 0 then 0 else 1#32 <<< (9 + 2 * k.val)))
    let bank (sel : BitVec 2) : BitVec 7 := BitVec.ofNat 7 (16 + 4 * k.val + sel.toNat)
    let evenDrawn := if se = 0 then marked else offer (zSp e) (bank se) marked
    if attach = true then
      if se = 0 ∧ so = 0 then marked
      else offer (zSp e) (BitVec.ofNat 7 (16 + 4 * so.toNat + se.toNat)) marked
    else if so = 0 then evenDrawn else offer (zSp (oddSprite k)) (bank so) evenDrawn
  -- the load (R158)
  (∀ (u : Sprite) (p : Nat),
    (u.armed = true ∧ p = start u →
      loadIfStart p u = { u with shiftA := u.dataA, shiftB := u.dataB, half := false }) ∧
    (u.armed = false ∨ p ≠ start u → loadIfStart p u = u)) ∧
  -- the shifting (R159)
  (∀ (u : Sprite) (m : Nat), u.half = false →
    advance^[m] u =
      { u with shiftA := u.shiftA <<< (m / 2), shiftB := u.shiftB <<< (m / 2),
               half := decide (m % 2 = 1) } ∧
    (m < 32 → selector (advance^[m] u) =
      BitVec.ofBool (u.shiftB.getLsbD (15 - m / 2)) ++ BitVec.ofBool (u.shiftA.getLsbD (15 - m / 2))) ∧
    (32 ≤ m → selector (advance^[m] u) = 0)) ∧
  -- one position of a pair's pass (R157)
  (∀ (d : SpriteParams) (k : Fin 4) (t : SpriteState) (p : Nat),
    let e := evenSprite k
    let o := oddSprite k
    let ue := loadIfStart p t.spr[e]
    let uo := loadIfStart p t.spr[o]
    ∀ se so : BitVec 2,
      (inWindow d ue e p → se = BitVec.ofBool (ue.shiftB.getLsbD 15) ++ BitVec.ofBool (ue.shiftA.getLsbD 15)) →
      (¬ inWindow d ue e p → se = 0) →
      (inWindow d uo o p → so = BitVec.ofBool (uo.shiftB.getLsbD 15) ++ BitVec.ofBool (uo.shiftA.getLsbD 15)) →
      (¬ inWindow d uo o p → so = 0) →
      let drawn := draw k (t.spr[o].ctl.getLsbD 7) se so
        (pixelAt t.buf.multiplexedIndex p, pixelAt t.buf.depthTag p)
      spritePixel d k t p =
        { spr := (t.spr.set e (advance ue)).set o (advance uo)
          buf := { t.buf with
            multiplexedIndex := setPixel t.buf.multiplexedIndex p drawn.1
            depthTag := setPixel t.buf.depthTag p drawn.2 } }) ∧
  -- the pass over a line (R157, R71)
  (∀ (s : State) (k : Fin 4), replayable s.qSpr[k] →
    let d : SpriteParams :=
      { hidden := s.config.hiddenSprites, clipBegin := s.clipBegin, clipEnd := s.clipEnd }
    let applied (t : SpriteState) (cs : ChangeQueue) : SpriteState :=
      { t with spr := cs.foldl applySprRegs t.spr }
    let line := (List.range s.par.hpixels).foldl (fun t p =>
      spritePixel d k (applied t (s.qSpr[k].filter fun c => decide (c.triggerPixel = Int.ofNat p))) p)
      { spr := s.spr, buf := s.buf }
    let t := applied line (s.qSpr[k].filter fun c => decide ((s.par.hpixels : Int) ≤ c.triggerPixel))
    s.spriteLine k = { s with spr := t.spr, buf := t.buf, qSpr := s.qSpr.set k [] }) ∧
  -- a line with no queued change (R157)
  (∀ (s : State) (k : Fin 4) (p : Nat), s.buffersWf → s.qSpr[k] = [] → p < s.par.hpixels →
    (∀ x : Fin 8, s.spr[x].shiftA = 0 ∧ s.spr[x].shiftB = 0) →
    let d : SpriteParams :=
      { hidden := s.config.hiddenSprites, clipBegin := s.clipBegin, clipEnd := s.clipEnd }
    let held (u : Sprite) : BitVec 2 :=
      if u.armed = true ∧ start u ≤ p ∧ p < start u + 32 then
        BitVec.ofBool (u.dataB.getLsbD (15 - (p - start u) / 2)) ++
          BitVec.ofBool (u.dataA.getLsbD (15 - (p - start u) / 2))
      else 0
    let e := evenSprite k
    let o := oddSprite k
    let b := (s.spriteLine k).buf
    ∀ se so : BitVec 2,
      (inWindow d s.spr[e] e p → se = held s.spr[e]) → (¬ inWindow d s.spr[e] e p → se = 0) →
      (inWindow d s.spr[o] o p → so = held s.spr[o]) → (¬ inWindow d s.spr[o] o p → so = 0) →
      (pixelAt b.multiplexedIndex p, pixelAt b.depthTag p) =
        draw k (s.spr[o].ctl.getLsbD 7) se so
          (pixelAt s.buf.multiplexedIndex p, pixelAt s.buf.depthTag p))

/-- R41, R160, R163: the depth test of one offer, and the order of the depths. -/
def Obligations.SpriteOffersFollowTheDepthOrder : Prop :=
  (∀ n m : Fin 8, n < m → (zSp m).toNat < (zSp n).toNat) ∧
  (∀ (n : Fin 8) (c : BitVec 3), c.toNat ≤ 4 →
    ((zPf c).toNat < (zSp n).toNat ↔ n.val / 2 < c.toNat)) ∧
  (∀ (n : Fin 8) (idx : BitVec 7) (x : SpritePixel),
    let y := offer (zSp n) idx x
    ((depthOf x.2).toNat < (zSp n).toNat →
      y.1 = idx ∧ depthOf y.2 = zSp n ∧ y.2 &&& ~~~depthMask = x.2 &&& ~~~depthMask) ∧
    ((zSp n).toNat ≤ (depthOf x.2).toNat →
      tagHas x.2 shresPix = true ∧ isPfDepth (depthOf x.2) = true ∧ tagHas x.2 sprUnder = false →
      y = (idx, x.2 ||| sprUnder)) ∧
    ((zSp n).toNat ≤ (depthOf x.2).toNat →
      ¬ (tagHas x.2 shresPix = true ∧ isPfDepth (depthOf x.2) = true ∧ tagHas x.2 sprUnder = false) →
      y = x))

/-- R164: outside SHRES the order in which two pairs are drawn does not matter, and the color shown is
the one the lower-numbered pair leaves where it is solid. -/
def Obligations.PairOrderDoesNotMatter : Prop :=
  ∀ (j k : Fin 4) (a b : Bool) (je jo ke ko : BitVec 2) (x : SpritePixel),
    j < k → tagHas x.2 shresPix = false →
    pairPixel k b ke ko (pairPixel j a je jo x) = pairPixel j a je jo (pairPixel k b ke ko x) ∧
    (je ≠ 0 ∨ jo ≠ 0 →
      (pairPixel k b ke ko (pairPixel j a je jo x)).1 = (pairPixel j a je jo x).1)

/-- R162: an invisible sprite contributes selector 0, and a pair with no visible sprite leaves the
buffers as they are. -/
def Obligations.InvisibleSpritesDrawNothing : Prop :=
  (∀ (d : SpriteParams) (u : Sprite) (x : Fin 8) (p : Nat),
    ¬ (u.enabled = true ∧ d.hidden.getLsbD x.val = false ∧ d.clipBegin.toNat ≤ p ∧
        p < d.clipEnd.toNat) → shownSelector d u x p = 0) ∧
  (∀ (d : SpriteParams) (u : Sprite) (x : Fin 8) (p : Nat),
    u.enabled = true → d.hidden.getLsbD x.val = false → d.clipBegin.toNat ≤ p → p < d.clipEnd.toNat →
    shownSelector d u x p = selector u) ∧
  (∀ (d : SpriteParams) (k : Fin 4) (t : SpriteState) (p : Nat),
    visible d t.spr[evenSprite k] (evenSprite k) p = false →
    visible d t.spr[oddSprite k] (oddSprite k) p = false → (spritePixel d k t p).buf = t.buf)

/-- R157, R161: the colors, depths and solid bits a pair leaves where nothing else is solid. -/
def Obligations.PairsShowTheirColorBank : Prop :=
  ∀ (k : Fin 4) (att : Bool) (se so : BitVec 2) (x : SpritePixel), depthOf x.2 = 0 →
    let y := pairPixel k att se so x
    (se = 0 ∧ so = 0 → y = x) ∧
    (att = true ∧ (se ≠ 0 ∨ so ≠ 0) →
      y.1.toNat = 16 + 4 * so.toNat + se.toNat ∧ depthOf y.2 = zSp (evenSprite k)) ∧
    (att = false ∧ se ≠ 0 → y.1.toNat = 16 + 4 * k.val + se.toNat ∧ depthOf y.2 = zSp (evenSprite k)) ∧
    (att = false ∧ se = 0 ∧ so ≠ 0 →
      y.1.toNat = 16 + 4 * k.val + so.toNat ∧ depthOf y.2 = zSp (oddSprite k)) ∧
    tagHas y.2 (sprSolid (evenSprite k)) = (tagHas x.2 (sprSolid (evenSprite k)) || se != 0) ∧
    tagHas y.2 (sprSolid (oddSprite k)) = (tagHas x.2 (sprSolid (oddSprite k)) || so != 0)

/-! ## Collisions (spec/42_sprites_collision.md) -/

/-- R166, R65: a `CLXDAT` read returns the bits with bit 15 set and clears them, inside and outside a
line; a second read returns no collision bit. That the value read is appended to `responses` is the
model's choice (log 3). -/
def Obligations.ReadClxdatClearsIt : Prop :=
  ∀ s : State,
    let t : State := { s with
      clxdat := 0, responses := s.responses ++ [.value (0x8000#16 ||| s.clxdat.setWidth 16)] }
    exec .rClxdat s = .next t ∧
    exec .rClxdat t = .next { t with responses := t.responses ++ [.value 0x8000#16] }

/-- R168, R169: the six sprite-to-sprite bits after the collision pass. -/
def Obligations.SpriteSpriteCollisionsSetTheirBit : Prop :=
  ∀ (s : State) (i j : Fin 4) (bit : Nat),
    (i, j, bit) ∈ ([(0, 1, 9), (0, 2, 10), (0, 3, 11), (1, 2, 12), (1, 3, 13), (2, 3, 14)] :
      List (Fin 4 × Fin 4 × Nat)) →
    let solid (k : Fin 4) (p : Nat) : Bool :=
      (pixelAt s.buf.depthTag p).getLsbD (8 + 2 * k.val) ||
        (s.reg.clxcon.getLsbD (12 + k.val) && (pixelAt s.buf.depthTag p).getLsbD (9 + 2 * k.val))
    s.collide.clxdat.getLsbD bit =
      (s.clxdat.getLsbD bit ||
        (s.config.clxSS && (List.range s.par.hpixels).any fun p => solid i p && solid j p))

/-- R167, R168, R170, R172: the eight sprite-to-playfield bits after the collision pass, with the masks
of `CLXCON` and the sub-pixels of a SHRES position spelled out; outside dual-playfield mode the
playfield 1 test is made only where playfield 2 matches. -/
def Obligations.SpritePlayfieldCollisionsSetTheirBits : Prop :=
  ∀ (s : State) (k : Fin 4),
    let en := s.reg.clxcon.extractLsb' 6 6
    let mv := s.reg.clxcon.extractLsb' 0 6
    let odd (r : BitVec 6) : Bool := r &&& (en &&& 0x15#6) == mv &&& (en &&& 0x15#6)
    let even (r : BitVec 6) : Bool := r &&& (en &&& 0x2A#6) == mv &&& (en &&& 0x2A#6)
    let tag (p : Nat) : Tag := pixelAt s.buf.depthTag p
    let raws (p : Nat) : List (BitVec 6) :=
      let r := pixelAt s.buf.rawBits p
      if (tag p).getLsbD 5 = true then [r &&& 0x3#6, (r >>> 2) &&& 0x3#6] else [r]
    let solid (p : Nat) : Bool :=
      (tag p).getLsbD (8 + 2 * k.val) ||
        (s.reg.clxcon.getLsbD (12 + k.val) && (tag p).getLsbD (9 + 2 * k.val))
    s.collide.clxdat.getLsbD (5 + k.val) =
      (s.clxdat.getLsbD (5 + k.val) ||
        (s.config.clxSP && (List.range s.par.hpixels).any fun p => solid p && (raws p).any even)) ∧
    s.collide.clxdat.getLsbD (1 + k.val) =
      (s.clxdat.getLsbD (1 + k.val) ||
        (s.config.clxSP && (List.range s.par.hpixels).any fun p =>
          solid p && (raws p).any fun r => odd r && (even r || (tag p).getLsbD 2)))

/-- R167, R171 to R173: the playfield bit after the collision pass, with the masks of `CLXCON` and the
sub-pixels of a SHRES position spelled out; the pass changes `clxdat` only, only sets bits of it, and
sets none where every kind of test is off. -/
def Obligations.CollisionPassOnlySetsBits : Prop :=
  ∀ s : State,
    let en := s.reg.clxcon.extractLsb' 6 6
    let mv := s.reg.clxcon.extractLsb' 0 6
    let odd (r : BitVec 6) : Bool := r &&& (en &&& 0x15#6) == mv &&& (en &&& 0x15#6)
    let even (r : BitVec 6) : Bool := r &&& (en &&& 0x2A#6) == mv &&& (en &&& 0x2A#6)
    let raws (p : Nat) : List (BitVec 6) :=
      let r := pixelAt s.buf.rawBits p
      if (pixelAt s.buf.depthTag p).getLsbD 5 = true then [r &&& 0x3#6, (r >>> 2) &&& 0x3#6] else [r]
    s.collide.clxdat.getLsbD 0 =
      (s.clxdat.getLsbD 0 || (s.config.clxPP && (List.range s.par.hpixels).any fun p =>
        (raws p).any fun r => odd r && even r)) ∧
    s.collide = { s with clxdat := s.collide.clxdat } ∧
    s.clxdat &&& s.collide.clxdat = s.clxdat ∧
    (s.config.clxSS = false → s.config.clxSP = false → s.config.clxPP = false →
      s.collide.clxdat = s.clxdat)

/-! ## Colors, the border and the line output (spec/43_color_framebuffer.md) -/

/-- R185, R196: every color register write is one record in `Q_COL`; a replayed record reaches exactly its
register, with the low 12 bits of its value; and after the line each color register, and the colorizer's
`BPLCON0`, holds the value of the last record for it, or its old value where there is none. -/
def Obligations.ColorWritesAreQueued : Prop :=
  (∀ (n : Fin 32) (v : Word) (px : Int) (s : State),
    queuedWrite (colorWrite n v px) px [s.qCol] s
      { s with qCol := enqueue { triggerPixel := px, registerId := .color n, value := v } s.qCol }) ∧
  (∀ (st : Col) (m n : Fin 32) (v : Word) (px : Int),
    let after (id : RegId) : Col :=
      applyColRegs st { triggerPixel := px, registerId := id, value := v }
    (after (.color n)).color[m] = (if m = n then v.extractLsb' 0 12 else st.color[m]) ∧
    (after (.color n)).bplcon0 = st.bplcon0 ∧
    after .bplcon0 = { st with bplcon0 := v }) ∧
  (∀ (s : State) (n : Fin 32),
    s.outputLine.col.color[n] =
      (((s.qCol.filter fun c => decide (c.registerId = .color n)).getLast?).map
        (·.value.extractLsb' 0 12)).getD s.col.color[n] ∧
    s.outputLine.col.bplcon0 =
      (((s.qCol.filter fun c => decide (c.registerId = .bplcon0)).getLast?).map
        (·.value)).getD s.col.bplcon0 ∧
    s.outputLine.qCol = [])

/-- R191 to R194, R99: the display-window and border control writes are records in `Q_DIW`, and a
`BPLCON3` write on OCS is ignored, inside and outside a line; a replayed record reaches exactly its
register; and after the line each register holds the value of the last record for it, or its old value
where there is none. -/
def Obligations.WindowWritesAreQueued : Prop :=
  (∀ (v : Word) (px : Int) (s : State),
    let queued (id : RegId) : State :=
      { s with qDiw := enqueue { triggerPixel := px, registerId := id, value := v } s.qDiw }
    queuedWrite (.wDiwstrt v px) px [s.qDiw] s (queued .diwstrt) ∧
    queuedWrite (.wDiwstop v px) px [s.qDiw] s (queued .diwstop) ∧
    (s.par.chip = .ecs → queuedWrite (.wBplcon3 v px) px [s.qDiw] s (queued .bplcon3)) ∧
    (s.par.chip = .ocs → exec (.wBplcon3 v px) s = .next s)) ∧
  (∀ (st : Diw) (v : Word) (px : Int),
    let after (id : RegId) : Diw :=
      applyDiwRegs st { triggerPixel := px, registerId := id, value := v }
    after .diwstrt = { st with diwstrt := v } ∧ after .diwstop = { st with diwstop := v } ∧
    after .bplcon3 = { st with bplcon3 := v } ∧ after .bplcon0 = { st with bplcon0 := v }) ∧
  (∀ s : State,
    let last (id : RegId) (old : Word) : Word :=
      (((s.qDiw.filter fun c => decide (c.registerId = id)).getLast?).map (·.value)).getD old
    s.borderFill.diw.diwstrt = last .diwstrt s.diw.diwstrt ∧
    s.borderFill.diw.diwstop = last .diwstop s.diw.diwstop ∧
    s.borderFill.diw.bplcon3 = last .bplcon3 s.diw.bplcon3 ∧
    s.borderFill.diw.bplcon0 = last .bplcon0 s.diw.bplcon0 ∧
    s.borderFill.qDiw = [])

/-- R186, R187: the palette under the table invariant: the color registers, their half-bright forms,
each channel halved rounding down, and black. -/
def Obligations.PaletteFollowsTheColorRegisters : Prop :=
  (∀ s : State, s.lutWf →
    let table (c : Color) : Device := lutOf s.config.lut s.config.monitor c
    (∀ (i : Nat) (h : i < 32), pal s.lut s.col.color (BitVec.ofNat 7 i) = table s.col.color[i]) ∧
    (∀ (i : Nat) (h : i < 32), pal s.lut s.col.color (BitVec.ofNat 7 (32 + i)) =
      table ((s.col.color[i] >>> 1) &&& 0x777#12)) ∧
    pal s.lut s.col.color 64 = 0xFF000000#32) ∧
  (∀ (c : Color) (j : Fin 3), (((c >>> 1) &&& 0x777#12).extractLsb' (4 * j.val) 4).toNat =
    (c.extractLsb' (4 * j.val) 4).toNat / 2)

/-- R43, R188, R190: every entry of a lookup table has alpha 0xFF, at neutral settings each channel is
17 times the color's, and the table holds the value of its function at every color. That a function
`LUT` is named, and how its results outside the neutral settings get their alpha, is the model's choice
(log 7). -/
def Obligations.LookupTableScalesChannels : Prop :=
  (∀ (f : LutId) (m : Monitor) (c : Color), (lutOf f m c).extractLsb' 24 8 = 0xFF#8) ∧
  (∀ (f : LutId) (c : Color) (j : Fin 3),
    ((lutOf f .neutral c).extractLsb' (8 * j.val) 8).toNat =
      17 * (c.extractLsb' (8 - 4 * j.val) 4).toNat) ∧
  (∀ f : LutId, lutOf f .neutral 0xABC#12 = 0xFFCCBBAA#32) ∧
  (∀ (f : LutId) (m : Monitor) (c : Color), (lutTable f m)[c.toFin] = lutOf f m c)

/-- R71, R185, R196, R197, R199, R200, R205: the cell the colorizer makes at a position in the normal and
the SHRES mode, with the color registers and `BPLCON0` as they are after exactly the changes whose trigger
pixel is at most the position. -/
def Obligations.ColorizerLooksUpThePalette : Prop :=
  ∀ (s : State) (p : Nat), replayable s.qCol → p < s.par.hpixels →
    let cell := s.colorRun.line.getD p Cell.reset
    let bplcon0 := valueAt s.qCol .bplcon0 s.col.bplcon0 p
    let color (i : BitVec 7) : Device := pal s.lut (colorsAt s.qCol s.col.color p) i
    let flag := pixelAt s.buf.borderFlag p
    let tag := pixelAt s.buf.depthTag p
    let index := pixelAt s.buf.colorIndex p
    (resolution s.par.chip bplcon0 ≠ .shres →
      (bplcon0.getLsbD 11 = false ∨ bplcon0.getLsbD 10 = true) →
      let c := color (if flag.getLsbD 7 = true then flag.extractLsb' 0 7
        else pixelAt s.buf.multiplexedIndex p)
      cell = { c0 := c, c1 := c }) ∧
    (resolution s.par.chip bplcon0 = .shres →
      let sub (j : BitVec 2) : Device := color (
        if flag.getLsbD 7 = true then flag.extractLsb' 0 7
        else if isSprDepth (depthOf tag) = true ∨ (j = 0 ∧ tagHas tag sprUnder = true) then
          pixelAt s.buf.multiplexedIndex p
        else j.setWidth 7)
      cell = { c0 := sub (index.extractLsb' 0 2), c1 := sub (index.extractLsb' 2 2) })

/-- R71, R185, R196, R198, R200: the cell the colorizer makes at a position in HAM mode, with the registers
of each position as they are after exactly the changes whose trigger pixel is at most it: the hold color
starts at color 0 of the line start, each position in HAM mode loads a register into it or changes one
channel of it, positions in another mode keep it, and it is shown wherever no border and no sprite is. -/
def Obligations.HoldAndModifyRunsAlongTheLine : Prop :=
  ∀ (s : State) (p : Nat), replayable s.qCol → p < s.par.hpixels →
    let colors := colorsAt s.qCol s.col.color
    let ham (q : Nat) : Prop :=
      let bplcon0 := valueAt s.qCol .bplcon0 s.col.bplcon0 q
      resolution s.par.chip bplcon0 ≠ .shres ∧ bplcon0.getLsbD 11 = true ∧ bplcon0.getLsbD 10 = false
    ham p →
    let index (q : Nat) : BitVec 6 := pixelAt s.buf.colorIndex q
    let next (hold : Color) (q : Nat) : Color :=
      let d : BitVec 4 := (index q).extractLsb' 0 4
      if ¬ ham q then hold
      else if (index q).extractLsb' 4 2 = 0 then (colors q)[d.toNat]'(Nat.lt_trans d.isLt (by decide))
      else if (index q).extractLsb' 4 2 = 1 then hold.extractLsb' 4 8 ++ d
      else if (index q).extractLsb' 4 2 = 2 then d ++ hold.extractLsb' 0 8
      else hold.extractLsb' 8 4 ++ (d ++ hold.extractLsb' 0 4)
    let first : Color := s.col.color[0]
    let hold := (List.range (p + 1)).foldl next first
    let flag := pixelAt s.buf.borderFlag p
    let c := if flag.getLsbD 7 = true then pal s.lut (colors p) (flag.extractLsb' 0 7)
      else if isSprDepth (depthOf (pixelAt s.buf.depthTag p)) = true then
        pal s.lut (colors p) (pixelAt s.buf.multiplexedIndex p)
      else s.lut[hold.toFin]
    s.colorRun.line.getD p Cell.reset = { c0 := c, c1 := c }

/-- R71, R194, R195: the border at every position, with the window, `BPLCON3` and `BPLCON0` as they are
after exactly the changes whose trigger pixel is at most the position: the flip-flop closes at the window
stop, opens at the window start, keeps its value elsewhere, and carries over the line. On a line with no
queued change it is open from the window start up to the window stop. -/
def Obligations.BorderOpensInsideTheWindow : Prop :=
  (∀ s : State, s.buffersWf → replayable s.qDiw →
    let reg (id : RegId) (old : Word) (p : Nat) : Word := valueAt s.qDiw id old p
    let start (p : Nat) : Nat := 2 * ((reg .diwstrt s.diw.diwstrt p).extractLsb' 0 8).toNat
    let stop (p : Nat) : Nat := 512 + 2 * ((reg .diwstop s.diw.diwstop p).extractLsb' 0 8).toNat
    let flopAfter (n : Nat) : Bool := (List.range n).foldl (fun f p =>
      if p = stop p then false else if p = start p then true else f) s.diw.hFlop
    let blank (p : Nat) : Bool := decide (s.par.chip = .ecs) &&
      (reg .bplcon0 s.diw.bplcon0 p).getLsbD 0 && (reg .bplcon3 s.diw.bplcon3 p).getLsbD 5
    (∀ p < s.par.hpixels, pixelAt s.borderFill.buf.borderFlag p =
      if s.vFlop = true ∧ flopAfter (p + 1) = true then 0 else if blank p then 0xC0#8 else 0x80#8) ∧
    s.borderFill.diw.hFlop = flopAfter s.par.hpixels) ∧
  (∀ s : State, s.buffersWf → s.qDiw = [] →
    let start := 2 * (s.diw.diwstrt.extractLsb' 0 8).toNat
    let stop := 512 + 2 * (s.diw.diwstop.extractLsb' 0 8).toNat
    let flop (p : Nat) : Bool := if p < start then s.diw.hFlop else decide (p < stop)
    let blank : Bool := decide (s.par.chip = .ecs) && s.diw.bplcon0.getLsbD 0 && s.diw.bplcon3.getLsbD 5
    (∀ p < s.par.hpixels, pixelAt s.borderFill.buf.borderFlag p =
      if s.vFlop = true ∧ flop p = true then 0 else if blank then 0xC0#8 else 0x80#8) ∧
    s.borderFill.diw =
      { s.diw with hFlop := if s.par.hpixels = 0 then s.diw.hFlop else flop (s.par.hpixels - 1) } ∧
    s.borderFill = { s with
      diw := s.borderFill.diw, qDiw := [],
      buf := { s.buf with borderFlag := s.borderFill.buf.borderFlag } })

/-- R201 to R203: the hide-layer pass at each position, the blend byte by byte with alpha 0xFF at every
opacity, and what the two ends of the opacity do. -/
def Obligations.HideLayerPassBlendsTowardTheCheckerboard : Prop :=
  (∀ (s : State) (cells : List Cell), s.config.hiddenLayers = 0 → s.hidePass cells = cells) ∧
  (∀ (s : State) (cells : List Cell) (p : Nat) (h : p < cells.length),
    let tag := pixelAt s.buf.depthTag p
    let board : Device :=
      if (p / 8 + s.curVpos.toNat / 8) % 2 = 0 then 0xFF222222#32 else 0xFF444444#32
    let layer : Option Nat :=
      if isPfDepth (depthOf tag) = true then some (if tag.getLsbD 4 = true then 9 else 8)
      else (spriteOfDepth (depthOf tag)).map (·.val)
    let hidden : Bool := !(pixelAt s.buf.borderFlag p).getLsbD 7 &&
      layer.any fun l => s.config.hiddenLayers.getLsbD l
    (s.hidePass cells)[p]? = some (if hidden then
      { c0 := blend cells[p].c0 board s.config.hideOpacity,
        c1 := blend cells[p].c1 board s.config.hideOpacity } else cells[p])) ∧
  (∀ (c k : Device) (o : BitVec 8) (j : Fin 3),
    ((blend c k o).extractLsb' (8 * j.val) 8).toNat =
      (o.toNat * (c.extractLsb' (8 * j.val) 8).toNat +
        (255 - o.toNat) * (k.extractLsb' (8 * j.val) 8).toNat) / 255) ∧
  (∀ (c k : Device) (o : BitVec 8), (blend c k o).extractLsb' 24 8 = 0xFF#8) ∧
  (∀ (c k : Device), c.extractLsb' 24 8 = 0xFF#8 → blend c k 255 = c) ∧
  (∀ (c k : Device), k.extractLsb' 24 8 = 0xFF#8 → blend c k 0 = k)

/-! ## Lines, frames, readers, configuration and reset (spec/44_line_frame_control.md) -/

/-- R225, R265, R266: RESET. Under the policy `zero` every item but the configuration has the reset
state's value; under `arbitrary` the items that are not marked "(R)" have it. That the input, the
responses and the parameters stay, and that a reset under `arbitrary` moves the count of free values
on, is the model's choice (log 10, log 11). -/
def Obligations.ResetPutsItemsToTheirResetValues : Prop :=
  (∀ s : State, s.par.resetPolicy = .zero →
    exec .reset s = .next { State.reset with
      par := s.par, config := s.config
      lut := lutTable s.config.lut s.config.monitor
      buf := LineBufs.cleared s.par.hpixels
      fb := List.replicate s.par.nFb FrameBuffer.reset
      input := s.input, responses := s.responses, freeCount := s.freeCount }) ∧
  (∀ s : State, s.par.resetPolicy = .arbitrary → ∃ t, exec .reset s = .next t ∧
    t.par = s.par ∧ t.config = s.config ∧ t.lut = lutTable s.config.lut s.config.monitor ∧
    t.clxdat = 0 ∧ t.shift = Vector.replicate 6 0 ∧ t.armedOdd = false ∧ t.armedEven = false ∧
    (∀ u ∈ t.spr, u.shiftA = 0 ∧ u.shiftB = 0 ∧ u.half = false ∧ u.enabled = true ∧
      u.pendingDisable = false) ∧
    (∀ q ∈ t.queues, q = []) ∧ t.buf = LineBufs.cleared s.par.hpixels ∧
    t.fb.length = s.par.nFb ∧ (∀ f ∈ t.fb, f.nr = 0 ∧ f.lof = false ∧ f.lace = false) ∧
    t.writeIndex = 0 ∧ t.frameCounter = 0 ∧ t.frameActive = false ∧ t.lineActive = false ∧
    t.curVpos = 0 ∧ t.curLof = false ∧ t.vFlop = false ∧ t.bplDmaLine = false ∧
    t.clipBegin = 0 ∧ t.clipEnd = 0 ∧ t.fatal = none ∧ t.diagLog = [] ∧
    t.input = s.input ∧ t.responses = s.responses ∧ t.freeCount = s.freeCount + 1)

/-- R226, R229, R207: the begin and the end of a frame. -/
def Obligations.FramesBeginAndEndInOrder : Prop :=
  ∀ s : State,
    (∀ lof : Bool, s.frameActive = true ∨ s.lineActive = true →
      exec (.bof lof) s = .next (s.raiseFatal .sequenceError)) ∧
    (∀ lof : Bool, s.frameActive = false → s.lineActive = false →
      exec (.bof lof) s = .next { s with frameActive := true, curLof := lof }) ∧
    (s.frameActive = false ∨ s.lineActive = true →
      exec .eof s = .next (s.raiseFatal .sequenceError)) ∧
    (s.frameActive = true → s.lineActive = false →
      exec .eof s = .next { s with
        fb := s.fb.set s.writeIndex { bufferAt s.fb s.writeIndex with
          nr := s.frameCounter, lof := s.curLof, lace := s.reg.bplcon0.getLsbD 2 }
        writeIndex := (s.writeIndex + 1) % s.par.nFb
        frameCounter := s.frameCounter + 1
        frameActive := false })

/-- R227, R174: the begin of a line. -/
def Obligations.LinesBeginWithClearedBuffers : Prop :=
  ∀ (s : State) (vpos : Word) (v d : Bool),
    (s.frameActive = false ∨ s.lineActive = true →
      exec (.bol vpos v d) s = .next (s.raiseFatal .sequenceError)) ∧
    (s.frameActive = true → s.lineActive = false → (∃ q ∈ s.queues, q ≠ []) →
      exec (.bol vpos v d) s = .next (s.raiseFatal .queueNotEmpty)) ∧
    (s.frameActive = true → s.lineActive = false → (∀ q ∈ s.queues, q = []) →
      exec (.bol vpos v d) s = .next { s with
        lineActive := true, curVpos := vpos, vFlop := v, bplDmaLine := d
        clipBegin := if d then s.par.clipDma.first else s.par.clipNoDma.first
        clipEnd := if d then s.par.clipDma.stop else s.par.clipNoDma.stop
        buf := LineBufs.cleared s.par.hpixels
        spr := s.spr.map fun u => { u with
          shiftA := 0, shiftB := 0, half := false
          enabled := u.enabled && !u.pendingDisable, pendingDisable := false } })

/-- R228: the end of a line drains every queue, ends the line, and leaves unchanged everything but the
replay states, the scanline buffers, `clxdat` and the cells of the row `curVpos` of the write target. -/
def Obligations.LinesEndWithDrainedQueues : Prop :=
  ∀ (s : State) (vpos : Word),
    (s.lineActive = false ∨ vpos ≠ s.curVpos →
      exec (.eol vpos) s = .next (s.raiseFatal .sequenceError)) ∧
    (s.lineActive = true → vpos = s.curVpos → ∃ t, exec (.eol vpos) s = .next t ∧
      (∀ q ∈ t.queues, q = []) ∧
      t = { s with
        clxdat := t.clxdat, ctrl := t.ctrl, spr := t.spr, diw := t.diw, col := t.col
        qCtrl := t.qCtrl, qSpr := t.qSpr, qDiw := t.qDiw, qCol := t.qCol
        buf := t.buf, fb := t.fb, lineActive := false } ∧
      t.buf.rawBits = s.buf.rawBits ∧
      t.fb.length = s.fb.length ∧
      (∀ b, (bufferAt t.fb b).nr = (bufferAt s.fb b).nr ∧ (bufferAt t.fb b).lof = (bufferAt s.fb b).lof ∧
        (bufferAt t.fb b).lace = (bufferAt s.fb b).lace) ∧
      (s.storeWf → ∀ b row col, ¬ (b = s.writeIndex ∧ row = s.curVpos.toNat ∧
        row < s.par.vpixels ∧ col < s.par.hpixels) → t.cellAt b row col = s.cellAt b row col))

/-- R204, R73, R228: the end of a line writes the colorized and hidden line into its row, cell by cell;
a row past the buffer is dropped. The passes before the colorizer run in the order of R228, the four
sprite passes in ascending order of the pairs. -/
def Obligations.LinesEndByWritingTheirRow : Prop :=
  ∀ (s : State) (vpos : Word), s.lineActive = true → vpos = s.curVpos → s.storeWf →
    let sprites := (((s.translate.spriteLine 0).spriteLine 1).spriteLine 2).spriteLine 3
    let u := sprites.collide.borderFill
    let cells := u.hidePass u.colorRun.line
    ∃ t, exec (.eol vpos) s = .next t ∧
      t.clxdat = u.clxdat ∧ t.ctrl = u.ctrl ∧ t.spr = u.spr ∧ t.diw = u.diw ∧
      t.col = u.colorRun.col ∧ cells.length = s.par.hpixels ∧
      (vpos.toNat < s.par.vpixels → ∀ p < s.par.hpixels,
        cells[p]? = some (t.cellAt s.writeIndex vpos.toNat p)) ∧
      (s.par.vpixels ≤ vpos.toNat → t.fb = s.fb)

/-- R206 to R208: right after the end of a frame, stable buffer 0 is the buffer that was the write
target, with its cells, its tags and the frame counter of before. That the snapshot is appended to
`responses` is the model's choice (log 3). -/
def Obligations.EndedFramesBecomeStable : Prop :=
  ∀ s : State, paramsWf s.par → s.fb.length = s.par.nFb → s.writeIndex < s.par.nFb →
    s.frameActive = true → s.lineActive = false → s.frameCounter.toNat + 1 < 2 ^ 64 →
    ∃ t f, exec .eof s = .next t ∧
      exec (.stable 0) t = .next { t with responses := t.responses ++ [.frame f] } ∧
      f.nr = s.frameCounter ∧ f.lof = s.curLof ∧ f.lace = s.reg.bplcon0.getLsbD 2 ∧
      f.cells = (bufferAt s.fb s.writeIndex).cells ∧ f = bufferAt t.fb s.writeIndex

/-- R230, R74: STABLE returns the buffer that lies `offset + 1` places before the write target in the
ring, or is refused, and changes nothing else. That the answer is appended to `responses` is the
model's choice (log 3). -/
def Obligations.StableReturnsASnapshot : Prop :=
  ∀ (s : State) (offset : Word),
    (offset.toNat + 2 ≤ s.par.nFb → offset.toNat < s.frameCounter.toNat → s.writeIndex < s.par.nFb →
      ∃ b < s.par.nFb, b ≠ s.writeIndex ∧ (b + 1 + offset.toNat) % s.par.nFb = s.writeIndex ∧
        exec (.stable offset) s = .next { s with
          responses := s.responses ++ [.frame (bufferAt s.fb b)] }) ∧
    (s.par.nFb < offset.toNat + 2 ∨ s.frameCounter.toNat ≤ offset.toNat →
      exec (.stable offset) s = .next { s with
        responses := s.responses ++ [.refused .noStableBuffer] })

/-- R73, R74, R84: no operation but RESET changes a stable buffer, only EOF moves the write target, and
only EOL writes cells. -/
def Obligations.StableBuffersNeverChange : Prop :=
  ∀ (i : Instr) (s t : State), exec i s = .next t → i ≠ .reset →
    (∀ b, b ≠ s.writeIndex → bufferAt t.fb b = bufferAt s.fb b) ∧
    (i ≠ .eof → t.writeIndex = s.writeIndex ∧ t.frameCounter = s.frameCounter) ∧
    ((∀ vpos, i ≠ .eol vpos) → ∀ b row col, t.cellAt b row col = s.cellAt b row col)

/-- R231: CONFIG between lines changes exactly the fields its record names, and recomputes the lookup
table where it names `MONITOR` or `LUT`. -/
def Obligations.ConfigChangesTheNamedFields : Prop :=
  ∀ (s : State) (u : ConfigUpdate),
    (s.lineActive = true → exec (.config u) s = .next (s.raiseFatal .configMidLine)) ∧
    (s.lineActive = false → ∃ c : Config,
      exec (.config u) s = .next { s with
        config := c
        lut := if u.monitor = none ∧ u.lut = none then s.lut else lutTable c.lut c.monitor } ∧
      (∀ x, u.monitor = some x → c.monitor = x) ∧ (u.monitor = none → c.monitor = s.config.monitor) ∧
      (∀ x, u.lut = some x → c.lut = x) ∧ (u.lut = none → c.lut = s.config.lut) ∧
      (∀ x, u.clxSS = some x → c.clxSS = x) ∧ (u.clxSS = none → c.clxSS = s.config.clxSS) ∧
      (∀ x, u.clxSP = some x → c.clxSP = x) ∧ (u.clxSP = none → c.clxSP = s.config.clxSP) ∧
      (∀ x, u.clxPP = some x → c.clxPP = x) ∧ (u.clxPP = none → c.clxPP = s.config.clxPP) ∧
      (∀ x, u.hiddenPlanes = some x → c.hiddenPlanes = x) ∧
      (u.hiddenPlanes = none → c.hiddenPlanes = s.config.hiddenPlanes) ∧
      (∀ x, u.hiddenSprites = some x → c.hiddenSprites = x) ∧
      (u.hiddenSprites = none → c.hiddenSprites = s.config.hiddenSprites) ∧
      (∀ x, u.hiddenLayers = some x → c.hiddenLayers = x) ∧
      (u.hiddenLayers = none → c.hiddenLayers = s.config.hiddenLayers) ∧
      (∀ x, u.hideOpacity = some x → c.hideOpacity = x) ∧
      (u.hideOpacity = none → c.hideOpacity = s.config.hideOpacity))

/-- R96, R97: writes that the block does not decode and writes to `CLXDAT` change nothing, inside and
outside a line, and a read it does not decode returns some 16 bits and changes nothing. That the answer
is appended to `responses` is the model's choice (log 3), and so is the count of free values (log 9). -/
def Obligations.UndecodedAccessesChangeNothing : Prop :=
  ∀ (s : State) (a : Offset) (v : Word) (px : Int),
    exec (.wClxdat v px) s = .next s ∧
    exec (.wOther a v px) s = .next s ∧
    ∃ r : Word, exec (.rOther a) s =
      .next { s with responses := s.responses ++ [.value r], freeCount := s.freeCount + 1 }
end

