-- ==== Sys2Proof/Laws/Decode.lean ====
section
/-! SUPPORT. What each field of an encoded access word is (spec/30_encoding.md R90). -/

namespace Sys2Proof

variable (v : Word) (w fa fb : Bool) (a : Offset) (ev : BitVec 4)

/-- Every bit of a word of format REG. -/
theorem getLsbD_regWord (i : Nat) : (regWord v w a).getLsbD i =
    if i < 9 then a.getLsbD i else if i = 9 then w else if i < 16 then false
    else v.getLsbD (i - 16) := by
  change BitVec.getLsbD (w := 16 + (5 + (1 + (1 + 9))))
    (v ++ (0#5 ++ (0#1 ++ (BitVec.ofBool w ++ a)))) i = _
  simp only [BitVec.getLsbD_append]
  rcases Nat.lt_or_ge i 9 with h | h
  · simp [h, show i < 16 by omega, show i < 11 by omega, show i < 10 by omega]
  · obtain ⟨j, rfl⟩ := Nat.exists_eq_add_of_le h
    rcases j with _ | _ | _ | _ | _ | _ | _ | j
    all_goals simp

/-- Every bit of a word of format EVT. -/
theorem getLsbD_evtWord (i : Nat) : (evtWord v fb fa ev).getLsbD i =
    if i < 4 then ev.getLsbD i else if i = 4 then fa else if i = 5 then fb
    else if i = 10 then true else if i < 16 then false else v.getLsbD (i - 16) := by
  change BitVec.getLsbD (w := 16 + (5 + (1 + (4 + (1 + (1 + 4))))))
    (v ++ (0#5 ++ (1#1 ++ (0#4 ++ (BitVec.ofBool fb ++ (BitVec.ofBool fa ++ ev)))))) i = _
  simp only [BitVec.getLsbD_append]
  rcases Nat.lt_or_ge i 16 with h | h
  · interval_cases i <;> simp
  · simp [show ¬ i < 4 by omega, show ¬ i < 16 by omega, show i ≠ 4 by omega,
      show i ≠ 5 by omega, show i ≠ 10 by omega]

@[simp] theorem valueField_regWord : valueField (regWord v w a) = v := by
  ext i hi
  simp [valueField, BitVec.getElem_extractLsb', getLsbD_regWord, BitVec.getLsbD_eq_getElem, hi,
    show ¬ 16 + i < 9 by omega, show 16 + i ≠ 9 by omega]

@[simp] theorem reservedField_regWord : reservedField (regWord v w a) = 0 := by
  ext i hi
  simp [reservedField, BitVec.getElem_extractLsb', getLsbD_regWord, show ¬ 11 + i < 9 by omega,
    show 11 + i ≠ 9 by omega, show 11 + i < 16 by omega]

@[simp] theorem formatBit_regWord : formatBit (regWord v w a) = false := by
  simp only [formatBit, getLsbD_regWord]; rfl

@[simp] theorem writeBit_regWord : writeBit (regWord v w a) = w := by
  simp only [writeBit, getLsbD_regWord]; rfl

@[simp] theorem addrField_regWord : addrField (regWord v w a) = a := by
  ext i hi
  simp [addrField, BitVec.getElem_extractLsb', getLsbD_regWord, BitVec.getLsbD_eq_getElem, hi]

@[simp] theorem valueField_evtWord : valueField (evtWord v fb fa ev) = v := by
  ext i hi
  simp [valueField, BitVec.getElem_extractLsb', getLsbD_evtWord, BitVec.getLsbD_eq_getElem, hi,
    show ¬ 16 + i < 4 by omega, show 16 + i ≠ 4 by omega, show 16 + i ≠ 5 by omega,
    show 16 + i ≠ 10 by omega]

@[simp] theorem reservedField_evtWord : reservedField (evtWord v fb fa ev) = 0 := by
  ext i hi
  simp [reservedField, BitVec.getElem_extractLsb', getLsbD_evtWord, show ¬ 11 + i < 4 by omega,
    show 11 + i ≠ 4 by omega, show 11 + i ≠ 5 by omega, show 11 + i ≠ 10 by omega,
    show 11 + i < 16 by omega]

@[simp] theorem formatBit_evtWord : formatBit (evtWord v fb fa ev) = true := by
  simp only [formatBit, getLsbD_evtWord]; rfl

@[simp] theorem eventReservedField_evtWord : eventReservedField (evtWord v fb fa ev) = 0 := by
  ext i hi
  simp [eventReservedField, BitVec.getElem_extractLsb', getLsbD_evtWord,
    show ¬ 6 + i < 4 by omega, show 6 + i ≠ 4 by omega, show 6 + i ≠ 5 by omega,
    show 6 + i ≠ 10 by omega, show 6 + i < 16 by omega]

@[simp] theorem flagB_evtWord : flagB (evtWord v fb fa ev) = fb := by
  simp only [flagB, getLsbD_evtWord]; rfl

@[simp] theorem flagA_evtWord : flagA (evtWord v fb fa ev) = fa := by
  simp only [flagA, getLsbD_evtWord]; rfl

@[simp] theorem eventField_evtWord : eventField (evtWord v fb fa ev) = ev := by
  ext i hi
  simp [eventField, BitVec.getElem_extractLsb', getLsbD_evtWord, BitVec.getLsbD_eq_getElem, hi]

/-- A register write that is encoded decodes by its offset. -/
theorem decode_writeOp (px : Int) (ha : a.getLsbD 0 = false) :
    decode (writeOp a v px) = .instr (decodeWrite a v px) := by
  unfold decode writeOp
  simp only [reservedField_regWord, formatBit_regWord, addrField_regWord, writeBit_regWord,
    valueField_regWord, ha]
  rfl

/-- A register read that is encoded decodes by its offset. -/
theorem decode_readOp (ha : a.getLsbD 0 = false) : decode (readOp a) = .instr (decodeRead a) := by
  unfold decode readOp
  simp only [reservedField_regWord, formatBit_regWord, addrField_regWord, writeBit_regWord, ha]
  rfl

/-- An event that is encoded decodes by its code. -/
theorem decode_eventOp : decode (eventOp v fb fa ev) = decodeEvent ev v fa fb 0 {} := by
  simp [decode, eventOp]

end Sys2Proof
end

