-- ==== Sys2Proof/Laws/Frames.lean ====
section
/-! SUPPORT. The frame of each pass and of each line, frame and configuration operation: the fields it
leaves as they were. -/

namespace Sys2Proof.Machine

variable (s : State)

/-! ## translate -/

@[simp] theorem translate_par : (s.translate).par = s.par := rfl
@[simp] theorem translate_config : (s.translate).config = s.config := rfl
@[simp] theorem translate_reg : (s.translate).reg = s.reg := rfl
@[simp] theorem translate_clxdat : (s.translate).clxdat = s.clxdat := rfl
@[simp] theorem translate_bpldat : (s.translate).bpldat = s.bpldat := rfl
@[simp] theorem translate_pipe : (s.translate).pipe = s.pipe := rfl
@[simp] theorem translate_shift : (s.translate).shift = s.shift := rfl
@[simp] theorem translate_armedOdd : (s.translate).armedOdd = s.armedOdd := rfl
@[simp] theorem translate_armedEven : (s.translate).armedEven = s.armedEven := rfl
@[simp] theorem translate_spr : (s.translate).spr = s.spr := rfl
@[simp] theorem translate_diw : (s.translate).diw = s.diw := rfl
@[simp] theorem translate_col : (s.translate).col = s.col := rfl
@[simp] theorem translate_qSpr : (s.translate).qSpr = s.qSpr := rfl
@[simp] theorem translate_qDiw : (s.translate).qDiw = s.qDiw := rfl
@[simp] theorem translate_qCol : (s.translate).qCol = s.qCol := rfl
@[simp] theorem translate_lut : (s.translate).lut = s.lut := rfl
@[simp] theorem translate_fb : (s.translate).fb = s.fb := rfl
@[simp] theorem translate_writeIndex : (s.translate).writeIndex = s.writeIndex := rfl
@[simp] theorem translate_frameCounter : (s.translate).frameCounter = s.frameCounter := rfl
@[simp] theorem translate_frameActive : (s.translate).frameActive = s.frameActive := rfl
@[simp] theorem translate_lineActive : (s.translate).lineActive = s.lineActive := rfl
@[simp] theorem translate_curVpos : (s.translate).curVpos = s.curVpos := rfl
@[simp] theorem translate_curLof : (s.translate).curLof = s.curLof := rfl
@[simp] theorem translate_vFlop : (s.translate).vFlop = s.vFlop := rfl
@[simp] theorem translate_bplDmaLine : (s.translate).bplDmaLine = s.bplDmaLine := rfl
@[simp] theorem translate_clipBegin : (s.translate).clipBegin = s.clipBegin := rfl
@[simp] theorem translate_clipEnd : (s.translate).clipEnd = s.clipEnd := rfl
@[simp] theorem translate_fatal : (s.translate).fatal = s.fatal := rfl
@[simp] theorem translate_diagLog : (s.translate).diagLog = s.diagLog := rfl
@[simp] theorem translate_input : (s.translate).input = s.input := rfl
@[simp] theorem translate_responses : (s.translate).responses = s.responses := rfl
@[simp] theorem translate_freeCount : (s.translate).freeCount = s.freeCount := rfl

/-! ## spriteLine -/

@[simp] theorem spriteLine_par (k : Fin 4) : (s.spriteLine k).par = s.par := rfl
@[simp] theorem spriteLine_config (k : Fin 4) : (s.spriteLine k).config = s.config := rfl
@[simp] theorem spriteLine_reg (k : Fin 4) : (s.spriteLine k).reg = s.reg := rfl
@[simp] theorem spriteLine_clxdat (k : Fin 4) : (s.spriteLine k).clxdat = s.clxdat := rfl
@[simp] theorem spriteLine_bpldat (k : Fin 4) : (s.spriteLine k).bpldat = s.bpldat := rfl
@[simp] theorem spriteLine_pipe (k : Fin 4) : (s.spriteLine k).pipe = s.pipe := rfl
@[simp] theorem spriteLine_shift (k : Fin 4) : (s.spriteLine k).shift = s.shift := rfl
@[simp] theorem spriteLine_armedOdd (k : Fin 4) : (s.spriteLine k).armedOdd = s.armedOdd := rfl
@[simp] theorem spriteLine_armedEven (k : Fin 4) : (s.spriteLine k).armedEven = s.armedEven := rfl
@[simp] theorem spriteLine_ctrl (k : Fin 4) : (s.spriteLine k).ctrl = s.ctrl := rfl
@[simp] theorem spriteLine_diw (k : Fin 4) : (s.spriteLine k).diw = s.diw := rfl
@[simp] theorem spriteLine_col (k : Fin 4) : (s.spriteLine k).col = s.col := rfl
@[simp] theorem spriteLine_qCtrl (k : Fin 4) : (s.spriteLine k).qCtrl = s.qCtrl := rfl
@[simp] theorem spriteLine_qDiw (k : Fin 4) : (s.spriteLine k).qDiw = s.qDiw := rfl
@[simp] theorem spriteLine_qCol (k : Fin 4) : (s.spriteLine k).qCol = s.qCol := rfl
@[simp] theorem spriteLine_lut (k : Fin 4) : (s.spriteLine k).lut = s.lut := rfl
@[simp] theorem spriteLine_fb (k : Fin 4) : (s.spriteLine k).fb = s.fb := rfl
@[simp] theorem spriteLine_writeIndex (k : Fin 4) : (s.spriteLine k).writeIndex = s.writeIndex := rfl
@[simp] theorem spriteLine_frameCounter (k : Fin 4) : (s.spriteLine k).frameCounter = s.frameCounter := rfl
@[simp] theorem spriteLine_frameActive (k : Fin 4) : (s.spriteLine k).frameActive = s.frameActive := rfl
@[simp] theorem spriteLine_lineActive (k : Fin 4) : (s.spriteLine k).lineActive = s.lineActive := rfl
@[simp] theorem spriteLine_curVpos (k : Fin 4) : (s.spriteLine k).curVpos = s.curVpos := rfl
@[simp] theorem spriteLine_curLof (k : Fin 4) : (s.spriteLine k).curLof = s.curLof := rfl
@[simp] theorem spriteLine_vFlop (k : Fin 4) : (s.spriteLine k).vFlop = s.vFlop := rfl
@[simp] theorem spriteLine_bplDmaLine (k : Fin 4) : (s.spriteLine k).bplDmaLine = s.bplDmaLine := rfl
@[simp] theorem spriteLine_clipBegin (k : Fin 4) : (s.spriteLine k).clipBegin = s.clipBegin := rfl
@[simp] theorem spriteLine_clipEnd (k : Fin 4) : (s.spriteLine k).clipEnd = s.clipEnd := rfl
@[simp] theorem spriteLine_fatal (k : Fin 4) : (s.spriteLine k).fatal = s.fatal := rfl
@[simp] theorem spriteLine_diagLog (k : Fin 4) : (s.spriteLine k).diagLog = s.diagLog := rfl
@[simp] theorem spriteLine_input (k : Fin 4) : (s.spriteLine k).input = s.input := rfl
@[simp] theorem spriteLine_responses (k : Fin 4) : (s.spriteLine k).responses = s.responses := rfl
@[simp] theorem spriteLine_freeCount (k : Fin 4) : (s.spriteLine k).freeCount = s.freeCount := rfl

/-! ## spriteLines -/

@[simp] theorem spriteLines_par : (s.spriteLines).par = s.par := by simp [State.spriteLines]
@[simp] theorem spriteLines_config : (s.spriteLines).config = s.config := by simp [State.spriteLines]
@[simp] theorem spriteLines_reg : (s.spriteLines).reg = s.reg := by simp [State.spriteLines]
@[simp] theorem spriteLines_clxdat : (s.spriteLines).clxdat = s.clxdat := by simp [State.spriteLines]
@[simp] theorem spriteLines_bpldat : (s.spriteLines).bpldat = s.bpldat := by simp [State.spriteLines]
@[simp] theorem spriteLines_pipe : (s.spriteLines).pipe = s.pipe := by simp [State.spriteLines]
@[simp] theorem spriteLines_shift : (s.spriteLines).shift = s.shift := by simp [State.spriteLines]
@[simp] theorem spriteLines_armedOdd : (s.spriteLines).armedOdd = s.armedOdd := by simp [State.spriteLines]
@[simp] theorem spriteLines_armedEven : (s.spriteLines).armedEven = s.armedEven := by simp [State.spriteLines]
@[simp] theorem spriteLines_ctrl : (s.spriteLines).ctrl = s.ctrl := by simp [State.spriteLines]
@[simp] theorem spriteLines_diw : (s.spriteLines).diw = s.diw := by simp [State.spriteLines]
@[simp] theorem spriteLines_col : (s.spriteLines).col = s.col := by simp [State.spriteLines]
@[simp] theorem spriteLines_qCtrl : (s.spriteLines).qCtrl = s.qCtrl := by simp [State.spriteLines]
@[simp] theorem spriteLines_qDiw : (s.spriteLines).qDiw = s.qDiw := by simp [State.spriteLines]
@[simp] theorem spriteLines_qCol : (s.spriteLines).qCol = s.qCol := by simp [State.spriteLines]
@[simp] theorem spriteLines_lut : (s.spriteLines).lut = s.lut := by simp [State.spriteLines]
@[simp] theorem spriteLines_fb : (s.spriteLines).fb = s.fb := by simp [State.spriteLines]
@[simp] theorem spriteLines_writeIndex : (s.spriteLines).writeIndex = s.writeIndex := by simp [State.spriteLines]
@[simp] theorem spriteLines_frameCounter : (s.spriteLines).frameCounter = s.frameCounter := by simp [State.spriteLines]
@[simp] theorem spriteLines_frameActive : (s.spriteLines).frameActive = s.frameActive := by simp [State.spriteLines]
@[simp] theorem spriteLines_lineActive : (s.spriteLines).lineActive = s.lineActive := by simp [State.spriteLines]
@[simp] theorem spriteLines_curVpos : (s.spriteLines).curVpos = s.curVpos := by simp [State.spriteLines]
@[simp] theorem spriteLines_curLof : (s.spriteLines).curLof = s.curLof := by simp [State.spriteLines]
@[simp] theorem spriteLines_vFlop : (s.spriteLines).vFlop = s.vFlop := by simp [State.spriteLines]
@[simp] theorem spriteLines_bplDmaLine : (s.spriteLines).bplDmaLine = s.bplDmaLine := by simp [State.spriteLines]
@[simp] theorem spriteLines_clipBegin : (s.spriteLines).clipBegin = s.clipBegin := by simp [State.spriteLines]
@[simp] theorem spriteLines_clipEnd : (s.spriteLines).clipEnd = s.clipEnd := by simp [State.spriteLines]
@[simp] theorem spriteLines_fatal : (s.spriteLines).fatal = s.fatal := by simp [State.spriteLines]
@[simp] theorem spriteLines_diagLog : (s.spriteLines).diagLog = s.diagLog := by simp [State.spriteLines]
@[simp] theorem spriteLines_input : (s.spriteLines).input = s.input := by simp [State.spriteLines]
@[simp] theorem spriteLines_responses : (s.spriteLines).responses = s.responses := by simp [State.spriteLines]
@[simp] theorem spriteLines_freeCount : (s.spriteLines).freeCount = s.freeCount := by simp [State.spriteLines]

/-! ## collide -/

@[simp] theorem collide_par : (s.collide).par = s.par := rfl
@[simp] theorem collide_config : (s.collide).config = s.config := rfl
@[simp] theorem collide_reg : (s.collide).reg = s.reg := rfl
@[simp] theorem collide_bpldat : (s.collide).bpldat = s.bpldat := rfl
@[simp] theorem collide_pipe : (s.collide).pipe = s.pipe := rfl
@[simp] theorem collide_shift : (s.collide).shift = s.shift := rfl
@[simp] theorem collide_armedOdd : (s.collide).armedOdd = s.armedOdd := rfl
@[simp] theorem collide_armedEven : (s.collide).armedEven = s.armedEven := rfl
@[simp] theorem collide_ctrl : (s.collide).ctrl = s.ctrl := rfl
@[simp] theorem collide_spr : (s.collide).spr = s.spr := rfl
@[simp] theorem collide_diw : (s.collide).diw = s.diw := rfl
@[simp] theorem collide_col : (s.collide).col = s.col := rfl
@[simp] theorem collide_qCtrl : (s.collide).qCtrl = s.qCtrl := rfl
@[simp] theorem collide_qSpr : (s.collide).qSpr = s.qSpr := rfl
@[simp] theorem collide_qDiw : (s.collide).qDiw = s.qDiw := rfl
@[simp] theorem collide_qCol : (s.collide).qCol = s.qCol := rfl
@[simp] theorem collide_buf : (s.collide).buf = s.buf := rfl
@[simp] theorem collide_lut : (s.collide).lut = s.lut := rfl
@[simp] theorem collide_fb : (s.collide).fb = s.fb := rfl
@[simp] theorem collide_writeIndex : (s.collide).writeIndex = s.writeIndex := rfl
@[simp] theorem collide_frameCounter : (s.collide).frameCounter = s.frameCounter := rfl
@[simp] theorem collide_frameActive : (s.collide).frameActive = s.frameActive := rfl
@[simp] theorem collide_lineActive : (s.collide).lineActive = s.lineActive := rfl
@[simp] theorem collide_curVpos : (s.collide).curVpos = s.curVpos := rfl
@[simp] theorem collide_curLof : (s.collide).curLof = s.curLof := rfl
@[simp] theorem collide_vFlop : (s.collide).vFlop = s.vFlop := rfl
@[simp] theorem collide_bplDmaLine : (s.collide).bplDmaLine = s.bplDmaLine := rfl
@[simp] theorem collide_clipBegin : (s.collide).clipBegin = s.clipBegin := rfl
@[simp] theorem collide_clipEnd : (s.collide).clipEnd = s.clipEnd := rfl
@[simp] theorem collide_fatal : (s.collide).fatal = s.fatal := rfl
@[simp] theorem collide_diagLog : (s.collide).diagLog = s.diagLog := rfl
@[simp] theorem collide_input : (s.collide).input = s.input := rfl
@[simp] theorem collide_responses : (s.collide).responses = s.responses := rfl
@[simp] theorem collide_freeCount : (s.collide).freeCount = s.freeCount := rfl

/-! ## borderFill -/

@[simp] theorem borderFill_par : (s.borderFill).par = s.par := rfl
@[simp] theorem borderFill_config : (s.borderFill).config = s.config := rfl
@[simp] theorem borderFill_reg : (s.borderFill).reg = s.reg := rfl
@[simp] theorem borderFill_clxdat : (s.borderFill).clxdat = s.clxdat := rfl
@[simp] theorem borderFill_bpldat : (s.borderFill).bpldat = s.bpldat := rfl
@[simp] theorem borderFill_pipe : (s.borderFill).pipe = s.pipe := rfl
@[simp] theorem borderFill_shift : (s.borderFill).shift = s.shift := rfl
@[simp] theorem borderFill_armedOdd : (s.borderFill).armedOdd = s.armedOdd := rfl
@[simp] theorem borderFill_armedEven : (s.borderFill).armedEven = s.armedEven := rfl
@[simp] theorem borderFill_ctrl : (s.borderFill).ctrl = s.ctrl := rfl
@[simp] theorem borderFill_spr : (s.borderFill).spr = s.spr := rfl
@[simp] theorem borderFill_col : (s.borderFill).col = s.col := rfl
@[simp] theorem borderFill_qCtrl : (s.borderFill).qCtrl = s.qCtrl := rfl
@[simp] theorem borderFill_qSpr : (s.borderFill).qSpr = s.qSpr := rfl
@[simp] theorem borderFill_qCol : (s.borderFill).qCol = s.qCol := rfl
@[simp] theorem borderFill_lut : (s.borderFill).lut = s.lut := rfl
@[simp] theorem borderFill_fb : (s.borderFill).fb = s.fb := rfl
@[simp] theorem borderFill_writeIndex : (s.borderFill).writeIndex = s.writeIndex := rfl
@[simp] theorem borderFill_frameCounter : (s.borderFill).frameCounter = s.frameCounter := rfl
@[simp] theorem borderFill_frameActive : (s.borderFill).frameActive = s.frameActive := rfl
@[simp] theorem borderFill_lineActive : (s.borderFill).lineActive = s.lineActive := rfl
@[simp] theorem borderFill_curVpos : (s.borderFill).curVpos = s.curVpos := rfl
@[simp] theorem borderFill_curLof : (s.borderFill).curLof = s.curLof := rfl
@[simp] theorem borderFill_vFlop : (s.borderFill).vFlop = s.vFlop := rfl
@[simp] theorem borderFill_bplDmaLine : (s.borderFill).bplDmaLine = s.bplDmaLine := rfl
@[simp] theorem borderFill_clipBegin : (s.borderFill).clipBegin = s.clipBegin := rfl
@[simp] theorem borderFill_clipEnd : (s.borderFill).clipEnd = s.clipEnd := rfl
@[simp] theorem borderFill_fatal : (s.borderFill).fatal = s.fatal := rfl
@[simp] theorem borderFill_diagLog : (s.borderFill).diagLog = s.diagLog := rfl
@[simp] theorem borderFill_input : (s.borderFill).input = s.input := rfl
@[simp] theorem borderFill_responses : (s.borderFill).responses = s.responses := rfl
@[simp] theorem borderFill_freeCount : (s.borderFill).freeCount = s.freeCount := rfl

/-! ## writeLine -/

@[simp] theorem writeLine_par (l : List Cell) : (s.writeLine l).par = s.par := rfl
@[simp] theorem writeLine_config (l : List Cell) : (s.writeLine l).config = s.config := rfl
@[simp] theorem writeLine_reg (l : List Cell) : (s.writeLine l).reg = s.reg := rfl
@[simp] theorem writeLine_clxdat (l : List Cell) : (s.writeLine l).clxdat = s.clxdat := rfl
@[simp] theorem writeLine_bpldat (l : List Cell) : (s.writeLine l).bpldat = s.bpldat := rfl
@[simp] theorem writeLine_pipe (l : List Cell) : (s.writeLine l).pipe = s.pipe := rfl
@[simp] theorem writeLine_shift (l : List Cell) : (s.writeLine l).shift = s.shift := rfl
@[simp] theorem writeLine_armedOdd (l : List Cell) : (s.writeLine l).armedOdd = s.armedOdd := rfl
@[simp] theorem writeLine_armedEven (l : List Cell) : (s.writeLine l).armedEven = s.armedEven := rfl
@[simp] theorem writeLine_ctrl (l : List Cell) : (s.writeLine l).ctrl = s.ctrl := rfl
@[simp] theorem writeLine_spr (l : List Cell) : (s.writeLine l).spr = s.spr := rfl
@[simp] theorem writeLine_diw (l : List Cell) : (s.writeLine l).diw = s.diw := rfl
@[simp] theorem writeLine_col (l : List Cell) : (s.writeLine l).col = s.col := rfl
@[simp] theorem writeLine_qCtrl (l : List Cell) : (s.writeLine l).qCtrl = s.qCtrl := rfl
@[simp] theorem writeLine_qSpr (l : List Cell) : (s.writeLine l).qSpr = s.qSpr := rfl
@[simp] theorem writeLine_qDiw (l : List Cell) : (s.writeLine l).qDiw = s.qDiw := rfl
@[simp] theorem writeLine_qCol (l : List Cell) : (s.writeLine l).qCol = s.qCol := rfl
@[simp] theorem writeLine_buf (l : List Cell) : (s.writeLine l).buf = s.buf := rfl
@[simp] theorem writeLine_lut (l : List Cell) : (s.writeLine l).lut = s.lut := rfl
@[simp] theorem writeLine_writeIndex (l : List Cell) : (s.writeLine l).writeIndex = s.writeIndex := rfl
@[simp] theorem writeLine_frameCounter (l : List Cell) : (s.writeLine l).frameCounter = s.frameCounter := rfl
@[simp] theorem writeLine_frameActive (l : List Cell) : (s.writeLine l).frameActive = s.frameActive := rfl
@[simp] theorem writeLine_lineActive (l : List Cell) : (s.writeLine l).lineActive = s.lineActive := rfl
@[simp] theorem writeLine_curVpos (l : List Cell) : (s.writeLine l).curVpos = s.curVpos := rfl
@[simp] theorem writeLine_curLof (l : List Cell) : (s.writeLine l).curLof = s.curLof := rfl
@[simp] theorem writeLine_vFlop (l : List Cell) : (s.writeLine l).vFlop = s.vFlop := rfl
@[simp] theorem writeLine_bplDmaLine (l : List Cell) : (s.writeLine l).bplDmaLine = s.bplDmaLine := rfl
@[simp] theorem writeLine_clipBegin (l : List Cell) : (s.writeLine l).clipBegin = s.clipBegin := rfl
@[simp] theorem writeLine_clipEnd (l : List Cell) : (s.writeLine l).clipEnd = s.clipEnd := rfl
@[simp] theorem writeLine_fatal (l : List Cell) : (s.writeLine l).fatal = s.fatal := rfl
@[simp] theorem writeLine_diagLog (l : List Cell) : (s.writeLine l).diagLog = s.diagLog := rfl
@[simp] theorem writeLine_input (l : List Cell) : (s.writeLine l).input = s.input := rfl
@[simp] theorem writeLine_responses (l : List Cell) : (s.writeLine l).responses = s.responses := rfl
@[simp] theorem writeLine_freeCount (l : List Cell) : (s.writeLine l).freeCount = s.freeCount := rfl

/-! ## outputLine -/

@[simp] theorem outputLine_par : (s.outputLine).par = s.par := rfl
@[simp] theorem outputLine_config : (s.outputLine).config = s.config := rfl
@[simp] theorem outputLine_reg : (s.outputLine).reg = s.reg := rfl
@[simp] theorem outputLine_clxdat : (s.outputLine).clxdat = s.clxdat := rfl
@[simp] theorem outputLine_bpldat : (s.outputLine).bpldat = s.bpldat := rfl
@[simp] theorem outputLine_pipe : (s.outputLine).pipe = s.pipe := rfl
@[simp] theorem outputLine_shift : (s.outputLine).shift = s.shift := rfl
@[simp] theorem outputLine_armedOdd : (s.outputLine).armedOdd = s.armedOdd := rfl
@[simp] theorem outputLine_armedEven : (s.outputLine).armedEven = s.armedEven := rfl
@[simp] theorem outputLine_ctrl : (s.outputLine).ctrl = s.ctrl := rfl
@[simp] theorem outputLine_spr : (s.outputLine).spr = s.spr := rfl
@[simp] theorem outputLine_diw : (s.outputLine).diw = s.diw := rfl
@[simp] theorem outputLine_qCtrl : (s.outputLine).qCtrl = s.qCtrl := rfl
@[simp] theorem outputLine_qSpr : (s.outputLine).qSpr = s.qSpr := rfl
@[simp] theorem outputLine_qDiw : (s.outputLine).qDiw = s.qDiw := rfl
@[simp] theorem outputLine_buf : (s.outputLine).buf = s.buf := rfl
@[simp] theorem outputLine_lut : (s.outputLine).lut = s.lut := rfl
@[simp] theorem outputLine_writeIndex : (s.outputLine).writeIndex = s.writeIndex := rfl
@[simp] theorem outputLine_frameCounter : (s.outputLine).frameCounter = s.frameCounter := rfl
@[simp] theorem outputLine_frameActive : (s.outputLine).frameActive = s.frameActive := rfl
@[simp] theorem outputLine_lineActive : (s.outputLine).lineActive = s.lineActive := rfl
@[simp] theorem outputLine_curVpos : (s.outputLine).curVpos = s.curVpos := rfl
@[simp] theorem outputLine_curLof : (s.outputLine).curLof = s.curLof := rfl
@[simp] theorem outputLine_vFlop : (s.outputLine).vFlop = s.vFlop := rfl
@[simp] theorem outputLine_bplDmaLine : (s.outputLine).bplDmaLine = s.bplDmaLine := rfl
@[simp] theorem outputLine_clipBegin : (s.outputLine).clipBegin = s.clipBegin := rfl
@[simp] theorem outputLine_clipEnd : (s.outputLine).clipEnd = s.clipEnd := rfl
@[simp] theorem outputLine_fatal : (s.outputLine).fatal = s.fatal := rfl
@[simp] theorem outputLine_diagLog : (s.outputLine).diagLog = s.diagLog := rfl
@[simp] theorem outputLine_input : (s.outputLine).input = s.input := rfl
@[simp] theorem outputLine_responses : (s.outputLine).responses = s.responses := rfl
@[simp] theorem outputLine_freeCount : (s.outputLine).freeCount = s.freeCount := rfl

/-! ## endLine -/

@[simp] theorem endLine_par : (s.endLine).par = s.par := by simp [State.endLine]
@[simp] theorem endLine_config : (s.endLine).config = s.config := by simp [State.endLine]
@[simp] theorem endLine_reg : (s.endLine).reg = s.reg := by simp [State.endLine]
@[simp] theorem endLine_bpldat : (s.endLine).bpldat = s.bpldat := by simp [State.endLine]
@[simp] theorem endLine_pipe : (s.endLine).pipe = s.pipe := by simp [State.endLine]
@[simp] theorem endLine_shift : (s.endLine).shift = s.shift := by simp [State.endLine]
@[simp] theorem endLine_armedOdd : (s.endLine).armedOdd = s.armedOdd := by simp [State.endLine]
@[simp] theorem endLine_armedEven : (s.endLine).armedEven = s.armedEven := by simp [State.endLine]
@[simp] theorem endLine_lut : (s.endLine).lut = s.lut := by simp [State.endLine]
@[simp] theorem endLine_writeIndex : (s.endLine).writeIndex = s.writeIndex := by simp [State.endLine]
@[simp] theorem endLine_frameCounter : (s.endLine).frameCounter = s.frameCounter := by simp [State.endLine]
@[simp] theorem endLine_frameActive : (s.endLine).frameActive = s.frameActive := by simp [State.endLine]
@[simp] theorem endLine_curVpos : (s.endLine).curVpos = s.curVpos := by simp [State.endLine]
@[simp] theorem endLine_curLof : (s.endLine).curLof = s.curLof := by simp [State.endLine]
@[simp] theorem endLine_vFlop : (s.endLine).vFlop = s.vFlop := by simp [State.endLine]
@[simp] theorem endLine_bplDmaLine : (s.endLine).bplDmaLine = s.bplDmaLine := by simp [State.endLine]
@[simp] theorem endLine_clipBegin : (s.endLine).clipBegin = s.clipBegin := by simp [State.endLine]
@[simp] theorem endLine_clipEnd : (s.endLine).clipEnd = s.clipEnd := by simp [State.endLine]
@[simp] theorem endLine_fatal : (s.endLine).fatal = s.fatal := by simp [State.endLine]
@[simp] theorem endLine_diagLog : (s.endLine).diagLog = s.diagLog := by simp [State.endLine]
@[simp] theorem endLine_input : (s.endLine).input = s.input := by simp [State.endLine]
@[simp] theorem endLine_responses : (s.endLine).responses = s.responses := by simp [State.endLine]
@[simp] theorem endLine_freeCount : (s.endLine).freeCount = s.freeCount := by simp [State.endLine]

/-! ## rotate -/

@[simp] theorem rotate_par : (s.rotate).par = s.par := rfl
@[simp] theorem rotate_config : (s.rotate).config = s.config := rfl
@[simp] theorem rotate_reg : (s.rotate).reg = s.reg := rfl
@[simp] theorem rotate_clxdat : (s.rotate).clxdat = s.clxdat := rfl
@[simp] theorem rotate_bpldat : (s.rotate).bpldat = s.bpldat := rfl
@[simp] theorem rotate_pipe : (s.rotate).pipe = s.pipe := rfl
@[simp] theorem rotate_shift : (s.rotate).shift = s.shift := rfl
@[simp] theorem rotate_armedOdd : (s.rotate).armedOdd = s.armedOdd := rfl
@[simp] theorem rotate_armedEven : (s.rotate).armedEven = s.armedEven := rfl
@[simp] theorem rotate_ctrl : (s.rotate).ctrl = s.ctrl := rfl
@[simp] theorem rotate_spr : (s.rotate).spr = s.spr := rfl
@[simp] theorem rotate_diw : (s.rotate).diw = s.diw := rfl
@[simp] theorem rotate_col : (s.rotate).col = s.col := rfl
@[simp] theorem rotate_qCtrl : (s.rotate).qCtrl = s.qCtrl := rfl
@[simp] theorem rotate_qSpr : (s.rotate).qSpr = s.qSpr := rfl
@[simp] theorem rotate_qDiw : (s.rotate).qDiw = s.qDiw := rfl
@[simp] theorem rotate_qCol : (s.rotate).qCol = s.qCol := rfl
@[simp] theorem rotate_buf : (s.rotate).buf = s.buf := rfl
@[simp] theorem rotate_lut : (s.rotate).lut = s.lut := rfl
@[simp] theorem rotate_frameActive : (s.rotate).frameActive = s.frameActive := rfl
@[simp] theorem rotate_lineActive : (s.rotate).lineActive = s.lineActive := rfl
@[simp] theorem rotate_curVpos : (s.rotate).curVpos = s.curVpos := rfl
@[simp] theorem rotate_curLof : (s.rotate).curLof = s.curLof := rfl
@[simp] theorem rotate_vFlop : (s.rotate).vFlop = s.vFlop := rfl
@[simp] theorem rotate_bplDmaLine : (s.rotate).bplDmaLine = s.bplDmaLine := rfl
@[simp] theorem rotate_clipBegin : (s.rotate).clipBegin = s.clipBegin := rfl
@[simp] theorem rotate_clipEnd : (s.rotate).clipEnd = s.clipEnd := rfl
@[simp] theorem rotate_fatal : (s.rotate).fatal = s.fatal := rfl
@[simp] theorem rotate_diagLog : (s.rotate).diagLog = s.diagLog := rfl
@[simp] theorem rotate_input : (s.rotate).input = s.input := rfl
@[simp] theorem rotate_responses : (s.rotate).responses = s.responses := rfl
@[simp] theorem rotate_freeCount : (s.rotate).freeCount = s.freeCount := rfl

/-! ## beginLine -/

@[simp] theorem beginLine_par (v : Word) (f d : Bool) : (s.beginLine v f d).par = s.par := rfl
@[simp] theorem beginLine_config (v : Word) (f d : Bool) : (s.beginLine v f d).config = s.config := rfl
@[simp] theorem beginLine_reg (v : Word) (f d : Bool) : (s.beginLine v f d).reg = s.reg := rfl
@[simp] theorem beginLine_clxdat (v : Word) (f d : Bool) : (s.beginLine v f d).clxdat = s.clxdat := rfl
@[simp] theorem beginLine_bpldat (v : Word) (f d : Bool) : (s.beginLine v f d).bpldat = s.bpldat := rfl
@[simp] theorem beginLine_pipe (v : Word) (f d : Bool) : (s.beginLine v f d).pipe = s.pipe := rfl
@[simp] theorem beginLine_shift (v : Word) (f d : Bool) : (s.beginLine v f d).shift = s.shift := rfl
@[simp] theorem beginLine_armedOdd (v : Word) (f d : Bool) : (s.beginLine v f d).armedOdd = s.armedOdd := rfl
@[simp] theorem beginLine_armedEven (v : Word) (f d : Bool) : (s.beginLine v f d).armedEven = s.armedEven := rfl
@[simp] theorem beginLine_ctrl (v : Word) (f d : Bool) : (s.beginLine v f d).ctrl = s.ctrl := rfl
@[simp] theorem beginLine_diw (v : Word) (f d : Bool) : (s.beginLine v f d).diw = s.diw := rfl
@[simp] theorem beginLine_col (v : Word) (f d : Bool) : (s.beginLine v f d).col = s.col := rfl
@[simp] theorem beginLine_qCtrl (v : Word) (f d : Bool) : (s.beginLine v f d).qCtrl = s.qCtrl := rfl
@[simp] theorem beginLine_qSpr (v : Word) (f d : Bool) : (s.beginLine v f d).qSpr = s.qSpr := rfl
@[simp] theorem beginLine_qDiw (v : Word) (f d : Bool) : (s.beginLine v f d).qDiw = s.qDiw := rfl
@[simp] theorem beginLine_qCol (v : Word) (f d : Bool) : (s.beginLine v f d).qCol = s.qCol := rfl
@[simp] theorem beginLine_lut (v : Word) (f d : Bool) : (s.beginLine v f d).lut = s.lut := rfl
@[simp] theorem beginLine_fb (v : Word) (f d : Bool) : (s.beginLine v f d).fb = s.fb := rfl
@[simp] theorem beginLine_writeIndex (v : Word) (f d : Bool) : (s.beginLine v f d).writeIndex = s.writeIndex := rfl
@[simp] theorem beginLine_frameCounter (v : Word) (f d : Bool) : (s.beginLine v f d).frameCounter = s.frameCounter := rfl
@[simp] theorem beginLine_frameActive (v : Word) (f d : Bool) : (s.beginLine v f d).frameActive = s.frameActive := rfl
@[simp] theorem beginLine_curLof (v : Word) (f d : Bool) : (s.beginLine v f d).curLof = s.curLof := rfl
@[simp] theorem beginLine_fatal (v : Word) (f d : Bool) : (s.beginLine v f d).fatal = s.fatal := rfl
@[simp] theorem beginLine_diagLog (v : Word) (f d : Bool) : (s.beginLine v f d).diagLog = s.diagLog := rfl
@[simp] theorem beginLine_input (v : Word) (f d : Bool) : (s.beginLine v f d).input = s.input := rfl
@[simp] theorem beginLine_responses (v : Word) (f d : Bool) : (s.beginLine v f d).responses = s.responses := rfl
@[simp] theorem beginLine_freeCount (v : Word) (f d : Bool) : (s.beginLine v f d).freeCount = s.freeCount := rfl

/-! ## configure -/

@[simp] theorem configure_par (u : ConfigUpdate) : (s.configure u).par = s.par := rfl
@[simp] theorem configure_reg (u : ConfigUpdate) : (s.configure u).reg = s.reg := rfl
@[simp] theorem configure_clxdat (u : ConfigUpdate) : (s.configure u).clxdat = s.clxdat := rfl
@[simp] theorem configure_bpldat (u : ConfigUpdate) : (s.configure u).bpldat = s.bpldat := rfl
@[simp] theorem configure_pipe (u : ConfigUpdate) : (s.configure u).pipe = s.pipe := rfl
@[simp] theorem configure_shift (u : ConfigUpdate) : (s.configure u).shift = s.shift := rfl
@[simp] theorem configure_armedOdd (u : ConfigUpdate) : (s.configure u).armedOdd = s.armedOdd := rfl
@[simp] theorem configure_armedEven (u : ConfigUpdate) : (s.configure u).armedEven = s.armedEven := rfl
@[simp] theorem configure_ctrl (u : ConfigUpdate) : (s.configure u).ctrl = s.ctrl := rfl
@[simp] theorem configure_spr (u : ConfigUpdate) : (s.configure u).spr = s.spr := rfl
@[simp] theorem configure_diw (u : ConfigUpdate) : (s.configure u).diw = s.diw := rfl
@[simp] theorem configure_col (u : ConfigUpdate) : (s.configure u).col = s.col := rfl
@[simp] theorem configure_qCtrl (u : ConfigUpdate) : (s.configure u).qCtrl = s.qCtrl := rfl
@[simp] theorem configure_qSpr (u : ConfigUpdate) : (s.configure u).qSpr = s.qSpr := rfl
@[simp] theorem configure_qDiw (u : ConfigUpdate) : (s.configure u).qDiw = s.qDiw := rfl
@[simp] theorem configure_qCol (u : ConfigUpdate) : (s.configure u).qCol = s.qCol := rfl
@[simp] theorem configure_buf (u : ConfigUpdate) : (s.configure u).buf = s.buf := rfl
@[simp] theorem configure_fb (u : ConfigUpdate) : (s.configure u).fb = s.fb := rfl
@[simp] theorem configure_writeIndex (u : ConfigUpdate) : (s.configure u).writeIndex = s.writeIndex := rfl
@[simp] theorem configure_frameCounter (u : ConfigUpdate) : (s.configure u).frameCounter = s.frameCounter := rfl
@[simp] theorem configure_frameActive (u : ConfigUpdate) : (s.configure u).frameActive = s.frameActive := rfl
@[simp] theorem configure_lineActive (u : ConfigUpdate) : (s.configure u).lineActive = s.lineActive := rfl
@[simp] theorem configure_curVpos (u : ConfigUpdate) : (s.configure u).curVpos = s.curVpos := rfl
@[simp] theorem configure_curLof (u : ConfigUpdate) : (s.configure u).curLof = s.curLof := rfl
@[simp] theorem configure_vFlop (u : ConfigUpdate) : (s.configure u).vFlop = s.vFlop := rfl
@[simp] theorem configure_bplDmaLine (u : ConfigUpdate) : (s.configure u).bplDmaLine = s.bplDmaLine := rfl
@[simp] theorem configure_clipBegin (u : ConfigUpdate) : (s.configure u).clipBegin = s.clipBegin := rfl
@[simp] theorem configure_clipEnd (u : ConfigUpdate) : (s.configure u).clipEnd = s.clipEnd := rfl
@[simp] theorem configure_fatal (u : ConfigUpdate) : (s.configure u).fatal = s.fatal := rfl
@[simp] theorem configure_diagLog (u : ConfigUpdate) : (s.configure u).diagLog = s.diagLog := rfl
@[simp] theorem configure_input (u : ConfigUpdate) : (s.configure u).input = s.input := rfl
@[simp] theorem configure_responses (u : ConfigUpdate) : (s.configure u).responses = s.responses := rfl
@[simp] theorem configure_freeCount (u : ConfigUpdate) : (s.configure u).freeCount = s.freeCount := rfl

/-! ## What the passes leave in their queues and in the line flag -/

@[simp] theorem translate_qCtrl : s.translate.qCtrl = [] := rfl
@[simp] theorem spriteLine_qSpr (k : Fin 4) : (s.spriteLine k).qSpr = s.qSpr.set k [] := rfl
@[simp] theorem borderFill_qDiw : s.borderFill.qDiw = [] := rfl
@[simp] theorem outputLine_qCol : s.outputLine.qCol = [] := rfl
@[simp] theorem endLine_lineActive : s.endLine.lineActive = false := rfl
@[simp] theorem endLine_qCtrl : s.endLine.qCtrl = [] := by simp [State.endLine]
@[simp] theorem endLine_qDiw : s.endLine.qDiw = [] := by simp [State.endLine]
@[simp] theorem endLine_qCol : s.endLine.qCol = [] := by simp [State.endLine]

/-! ## The draw step (R115, R116) -/

variable (g : PlaneGroup) (start px : Int) (res : Resolution) (n : Nat) (v : Word)

@[simp] theorem loadGroup_par : (s.loadGroup g).par = s.par := by
  unfold State.loadGroup; split <;> cases g <;> rfl
@[simp] theorem loadGroup_config : (s.loadGroup g).config = s.config := by
  unfold State.loadGroup; split <;> cases g <;> rfl
@[simp] theorem loadGroup_reg : (s.loadGroup g).reg = s.reg := by
  unfold State.loadGroup; split <;> cases g <;> rfl
@[simp] theorem loadGroup_clxdat : (s.loadGroup g).clxdat = s.clxdat := by
  unfold State.loadGroup; split <;> cases g <;> rfl
@[simp] theorem loadGroup_bpldat : (s.loadGroup g).bpldat = s.bpldat := by
  unfold State.loadGroup; split <;> cases g <;> rfl
@[simp] theorem loadGroup_pipe : (s.loadGroup g).pipe = s.pipe := by
  unfold State.loadGroup; split <;> cases g <;> rfl
@[simp] theorem loadGroup_ctrl : (s.loadGroup g).ctrl = s.ctrl := by
  unfold State.loadGroup; split <;> cases g <;> rfl
@[simp] theorem loadGroup_spr : (s.loadGroup g).spr = s.spr := by
  unfold State.loadGroup; split <;> cases g <;> rfl
@[simp] theorem loadGroup_diw : (s.loadGroup g).diw = s.diw := by
  unfold State.loadGroup; split <;> cases g <;> rfl
@[simp] theorem loadGroup_col : (s.loadGroup g).col = s.col := by
  unfold State.loadGroup; split <;> cases g <;> rfl
@[simp] theorem loadGroup_qCtrl : (s.loadGroup g).qCtrl = s.qCtrl := by
  unfold State.loadGroup; split <;> cases g <;> rfl
@[simp] theorem loadGroup_qSpr : (s.loadGroup g).qSpr = s.qSpr := by
  unfold State.loadGroup; split <;> cases g <;> rfl
@[simp] theorem loadGroup_qDiw : (s.loadGroup g).qDiw = s.qDiw := by
  unfold State.loadGroup; split <;> cases g <;> rfl
@[simp] theorem loadGroup_qCol : (s.loadGroup g).qCol = s.qCol := by
  unfold State.loadGroup; split <;> cases g <;> rfl
@[simp] theorem loadGroup_lut : (s.loadGroup g).lut = s.lut := by
  unfold State.loadGroup; split <;> cases g <;> rfl
@[simp] theorem loadGroup_fb : (s.loadGroup g).fb = s.fb := by
  unfold State.loadGroup; split <;> cases g <;> rfl
@[simp] theorem loadGroup_writeIndex : (s.loadGroup g).writeIndex = s.writeIndex := by
  unfold State.loadGroup; split <;> cases g <;> rfl
@[simp] theorem loadGroup_frameCounter : (s.loadGroup g).frameCounter = s.frameCounter := by
  unfold State.loadGroup; split <;> cases g <;> rfl
@[simp] theorem loadGroup_frameActive : (s.loadGroup g).frameActive = s.frameActive := by
  unfold State.loadGroup; split <;> cases g <;> rfl
@[simp] theorem loadGroup_lineActive : (s.loadGroup g).lineActive = s.lineActive := by
  unfold State.loadGroup; split <;> cases g <;> rfl
@[simp] theorem loadGroup_curVpos : (s.loadGroup g).curVpos = s.curVpos := by
  unfold State.loadGroup; split <;> cases g <;> rfl
@[simp] theorem loadGroup_curLof : (s.loadGroup g).curLof = s.curLof := by
  unfold State.loadGroup; split <;> cases g <;> rfl
@[simp] theorem loadGroup_vFlop : (s.loadGroup g).vFlop = s.vFlop := by
  unfold State.loadGroup; split <;> cases g <;> rfl
@[simp] theorem loadGroup_bplDmaLine : (s.loadGroup g).bplDmaLine = s.bplDmaLine := by
  unfold State.loadGroup; split <;> cases g <;> rfl
@[simp] theorem loadGroup_clipBegin : (s.loadGroup g).clipBegin = s.clipBegin := by
  unfold State.loadGroup; split <;> cases g <;> rfl
@[simp] theorem loadGroup_clipEnd : (s.loadGroup g).clipEnd = s.clipEnd := by
  unfold State.loadGroup; split <;> cases g <;> rfl
@[simp] theorem loadGroup_fatal : (s.loadGroup g).fatal = s.fatal := by
  unfold State.loadGroup; split <;> cases g <;> rfl
@[simp] theorem loadGroup_diagLog : (s.loadGroup g).diagLog = s.diagLog := by
  unfold State.loadGroup; split <;> cases g <;> rfl
@[simp] theorem loadGroup_input : (s.loadGroup g).input = s.input := by
  unfold State.loadGroup; split <;> cases g <;> rfl
@[simp] theorem loadGroup_responses : (s.loadGroup g).responses = s.responses := by
  unfold State.loadGroup; split <;> cases g <;> rfl
@[simp] theorem loadGroup_freeCount : (s.loadGroup g).freeCount = s.freeCount := by
  unfold State.loadGroup; split <;> cases g <;> rfl
@[simp] theorem loadGroup_buf : (s.loadGroup g).buf = s.buf := by
  unfold State.loadGroup; split <;> cases g <;> rfl
@[simp] theorem drawGroup_par : (s.drawGroup g start res n).par = s.par := by simp [State.drawGroup]
@[simp] theorem drawGroup_config : (s.drawGroup g start res n).config = s.config := by simp [State.drawGroup]
@[simp] theorem drawGroup_reg : (s.drawGroup g start res n).reg = s.reg := by simp [State.drawGroup]
@[simp] theorem drawGroup_clxdat : (s.drawGroup g start res n).clxdat = s.clxdat := by simp [State.drawGroup]
@[simp] theorem drawGroup_bpldat : (s.drawGroup g start res n).bpldat = s.bpldat := by simp [State.drawGroup]
@[simp] theorem drawGroup_pipe : (s.drawGroup g start res n).pipe = s.pipe := by simp [State.drawGroup]
@[simp] theorem drawGroup_ctrl : (s.drawGroup g start res n).ctrl = s.ctrl := by simp [State.drawGroup]
@[simp] theorem drawGroup_spr : (s.drawGroup g start res n).spr = s.spr := by simp [State.drawGroup]
@[simp] theorem drawGroup_diw : (s.drawGroup g start res n).diw = s.diw := by simp [State.drawGroup]
@[simp] theorem drawGroup_col : (s.drawGroup g start res n).col = s.col := by simp [State.drawGroup]
@[simp] theorem drawGroup_qCtrl : (s.drawGroup g start res n).qCtrl = s.qCtrl := by simp [State.drawGroup]
@[simp] theorem drawGroup_qSpr : (s.drawGroup g start res n).qSpr = s.qSpr := by simp [State.drawGroup]
@[simp] theorem drawGroup_qDiw : (s.drawGroup g start res n).qDiw = s.qDiw := by simp [State.drawGroup]
@[simp] theorem drawGroup_qCol : (s.drawGroup g start res n).qCol = s.qCol := by simp [State.drawGroup]
@[simp] theorem drawGroup_lut : (s.drawGroup g start res n).lut = s.lut := by simp [State.drawGroup]
@[simp] theorem drawGroup_fb : (s.drawGroup g start res n).fb = s.fb := by simp [State.drawGroup]
@[simp] theorem drawGroup_writeIndex : (s.drawGroup g start res n).writeIndex = s.writeIndex := by simp [State.drawGroup]
@[simp] theorem drawGroup_frameCounter : (s.drawGroup g start res n).frameCounter = s.frameCounter := by simp [State.drawGroup]
@[simp] theorem drawGroup_frameActive : (s.drawGroup g start res n).frameActive = s.frameActive := by simp [State.drawGroup]
@[simp] theorem drawGroup_lineActive : (s.drawGroup g start res n).lineActive = s.lineActive := by simp [State.drawGroup]
@[simp] theorem drawGroup_curVpos : (s.drawGroup g start res n).curVpos = s.curVpos := by simp [State.drawGroup]
@[simp] theorem drawGroup_curLof : (s.drawGroup g start res n).curLof = s.curLof := by simp [State.drawGroup]
@[simp] theorem drawGroup_vFlop : (s.drawGroup g start res n).vFlop = s.vFlop := by simp [State.drawGroup]
@[simp] theorem drawGroup_bplDmaLine : (s.drawGroup g start res n).bplDmaLine = s.bplDmaLine := by simp [State.drawGroup]
@[simp] theorem drawGroup_clipBegin : (s.drawGroup g start res n).clipBegin = s.clipBegin := by simp [State.drawGroup]
@[simp] theorem drawGroup_clipEnd : (s.drawGroup g start res n).clipEnd = s.clipEnd := by simp [State.drawGroup]
@[simp] theorem drawGroup_fatal : (s.drawGroup g start res n).fatal = s.fatal := by simp [State.drawGroup]
@[simp] theorem drawGroup_diagLog : (s.drawGroup g start res n).diagLog = s.diagLog := by simp [State.drawGroup]
@[simp] theorem drawGroup_input : (s.drawGroup g start res n).input = s.input := by simp [State.drawGroup]
@[simp] theorem drawGroup_responses : (s.drawGroup g start res n).responses = s.responses := by simp [State.drawGroup]
@[simp] theorem drawGroup_freeCount : (s.drawGroup g start res n).freeCount = s.freeCount := by simp [State.drawGroup]
@[simp] theorem drawGroup_borderFlag :
    (s.drawGroup g start res n).buf.borderFlag = s.buf.borderFlag := by simp [State.drawGroup]
@[simp] theorem drawGroup_colorIndex :
    (s.drawGroup g start res n).buf.colorIndex = s.buf.colorIndex := by simp [State.drawGroup]
@[simp] theorem drawGroup_multiplexedIndex :
    (s.drawGroup g start res n).buf.multiplexedIndex = s.buf.multiplexedIndex := by simp [State.drawGroup]
@[simp] theorem drawGroup_depthTag :
    (s.drawGroup g start res n).buf.depthTag = s.buf.depthTag := by simp [State.drawGroup]
@[simp] theorem loadAndDraw_par : (s.loadAndDraw v px).par = s.par := by
  simp [State.loadAndDraw, State.pipelineLoad]
@[simp] theorem loadAndDraw_config : (s.loadAndDraw v px).config = s.config := by
  simp [State.loadAndDraw, State.pipelineLoad]
@[simp] theorem loadAndDraw_reg : (s.loadAndDraw v px).reg = s.reg := by
  simp [State.loadAndDraw, State.pipelineLoad]
@[simp] theorem loadAndDraw_clxdat : (s.loadAndDraw v px).clxdat = s.clxdat := by
  simp [State.loadAndDraw, State.pipelineLoad]
@[simp] theorem loadAndDraw_ctrl : (s.loadAndDraw v px).ctrl = s.ctrl := by
  simp [State.loadAndDraw, State.pipelineLoad]
@[simp] theorem loadAndDraw_spr : (s.loadAndDraw v px).spr = s.spr := by
  simp [State.loadAndDraw, State.pipelineLoad]
@[simp] theorem loadAndDraw_diw : (s.loadAndDraw v px).diw = s.diw := by
  simp [State.loadAndDraw, State.pipelineLoad]
@[simp] theorem loadAndDraw_col : (s.loadAndDraw v px).col = s.col := by
  simp [State.loadAndDraw, State.pipelineLoad]
@[simp] theorem loadAndDraw_qCtrl : (s.loadAndDraw v px).qCtrl = s.qCtrl := by
  simp [State.loadAndDraw, State.pipelineLoad]
@[simp] theorem loadAndDraw_qSpr : (s.loadAndDraw v px).qSpr = s.qSpr := by
  simp [State.loadAndDraw, State.pipelineLoad]
@[simp] theorem loadAndDraw_qDiw : (s.loadAndDraw v px).qDiw = s.qDiw := by
  simp [State.loadAndDraw, State.pipelineLoad]
@[simp] theorem loadAndDraw_qCol : (s.loadAndDraw v px).qCol = s.qCol := by
  simp [State.loadAndDraw, State.pipelineLoad]
@[simp] theorem loadAndDraw_lut : (s.loadAndDraw v px).lut = s.lut := by
  simp [State.loadAndDraw, State.pipelineLoad]
@[simp] theorem loadAndDraw_fb : (s.loadAndDraw v px).fb = s.fb := by
  simp [State.loadAndDraw, State.pipelineLoad]
@[simp] theorem loadAndDraw_writeIndex : (s.loadAndDraw v px).writeIndex = s.writeIndex := by
  simp [State.loadAndDraw, State.pipelineLoad]
@[simp] theorem loadAndDraw_frameCounter : (s.loadAndDraw v px).frameCounter = s.frameCounter := by
  simp [State.loadAndDraw, State.pipelineLoad]
@[simp] theorem loadAndDraw_frameActive : (s.loadAndDraw v px).frameActive = s.frameActive := by
  simp [State.loadAndDraw, State.pipelineLoad]
@[simp] theorem loadAndDraw_lineActive : (s.loadAndDraw v px).lineActive = s.lineActive := by
  simp [State.loadAndDraw, State.pipelineLoad]
@[simp] theorem loadAndDraw_curVpos : (s.loadAndDraw v px).curVpos = s.curVpos := by
  simp [State.loadAndDraw, State.pipelineLoad]
@[simp] theorem loadAndDraw_curLof : (s.loadAndDraw v px).curLof = s.curLof := by
  simp [State.loadAndDraw, State.pipelineLoad]
@[simp] theorem loadAndDraw_vFlop : (s.loadAndDraw v px).vFlop = s.vFlop := by
  simp [State.loadAndDraw, State.pipelineLoad]
@[simp] theorem loadAndDraw_bplDmaLine : (s.loadAndDraw v px).bplDmaLine = s.bplDmaLine := by
  simp [State.loadAndDraw, State.pipelineLoad]
@[simp] theorem loadAndDraw_clipBegin : (s.loadAndDraw v px).clipBegin = s.clipBegin := by
  simp [State.loadAndDraw, State.pipelineLoad]
@[simp] theorem loadAndDraw_clipEnd : (s.loadAndDraw v px).clipEnd = s.clipEnd := by
  simp [State.loadAndDraw, State.pipelineLoad]
@[simp] theorem loadAndDraw_fatal : (s.loadAndDraw v px).fatal = s.fatal := by
  simp [State.loadAndDraw, State.pipelineLoad]
@[simp] theorem loadAndDraw_diagLog : (s.loadAndDraw v px).diagLog = s.diagLog := by
  simp [State.loadAndDraw, State.pipelineLoad]
@[simp] theorem loadAndDraw_input : (s.loadAndDraw v px).input = s.input := by
  simp [State.loadAndDraw, State.pipelineLoad]
@[simp] theorem loadAndDraw_responses : (s.loadAndDraw v px).responses = s.responses := by
  simp [State.loadAndDraw, State.pipelineLoad]
@[simp] theorem loadAndDraw_freeCount : (s.loadAndDraw v px).freeCount = s.freeCount := by
  simp [State.loadAndDraw, State.pipelineLoad]
@[simp] theorem loadAndDraw_bpldat : (s.loadAndDraw v px).bpldat = s.bpldat.set 0 v := by
  simp [State.loadAndDraw, State.pipelineLoad]
@[simp] theorem loadAndDraw_pipe : (s.loadAndDraw v px).pipe = s.bpldat.set 0 v := by
  simp [State.loadAndDraw, State.pipelineLoad]
@[simp] theorem loadAndDraw_borderFlag :
    (s.loadAndDraw v px).buf.borderFlag = s.buf.borderFlag := by simp [State.loadAndDraw, State.pipelineLoad]
@[simp] theorem loadAndDraw_colorIndex :
    (s.loadAndDraw v px).buf.colorIndex = s.buf.colorIndex := by simp [State.loadAndDraw, State.pipelineLoad]
@[simp] theorem loadAndDraw_multiplexedIndex :
    (s.loadAndDraw v px).buf.multiplexedIndex = s.buf.multiplexedIndex := by simp [State.loadAndDraw, State.pipelineLoad]
@[simp] theorem loadAndDraw_depthTag :
    (s.loadAndDraw v px).buf.depthTag = s.buf.depthTag := by simp [State.loadAndDraw, State.pipelineLoad]

end Sys2Proof.Machine
end

