-- ==== Sys2Proof/Laws/Ops.lean ====
section
/-! SUPPORT. What each shared operation of Machine/Ops.lean can do, said once. -/

namespace Sys2Proof.Machine

/-! ## Checks -/

/-- An operation with checks ends in its effect, or in the error of the check that failed. -/
theorem checked_next {check : Option FatalKind} {s t u : State} (h : checked check s t = .next u) :
    (check = none ∧ u = t) ∨ ∃ kind, check = some kind ∧ u = s.raiseFatal kind := by
  cases check with
  | none => exact .inl ⟨rfl, by simpa [checked] using h.symm⟩
  | some kind => exact .inr ⟨kind, rfl, by simpa [checked] using h.symm⟩

theorem checked_answers (check : Option FatalKind) (s t : State) : ∃ u, checked check s t = .next u := by
  cases check <;> exact ⟨_, rfl⟩

/-- The preamble passes inside a line at a pixel that is not negative. -/
theorem writePre_eq_none {s : State} {px : Int} :
    writePre s px = none ↔ s.lineActive = true ∧ 0 ≤ px := by
  unfold writePre
  split_ifs with h₁ h₂ <;> simp_all

theorem writePre_outside {s : State} {px : Int} (h : s.lineActive = false) :
    writePre s px = some .pokeOutsideLine := by simp [writePre, h]

theorem writePre_negative {s : State} {px : Int} (h : s.lineActive = true) (hpx : px < 0) :
    writePre s px = some .negativeTriggerPixel := by simp [writePre, h, hpx]

theorem writePre_inside {s : State} {px : Int} (h : s.lineActive = true) (hpx : 0 ≤ px) :
    writePre s px = none := writePre_eq_none.2 ⟨h, hpx⟩

/-- There is room in every queue exactly when none of them is full. -/
theorem overflowCheck_eq_none {cap : Nat} {qs : List ChangeQueue} :
    overflowCheck cap qs = none ↔ ∀ q ∈ qs, q.length ≠ cap := by
  simp [overflowCheck, queueFull]

theorem overflowCheck_full {cap : Nat} {qs : List ChangeQueue} (h : ∃ q ∈ qs, q.length = cap) :
    overflowCheck cap qs = some .queueOverflow := by
  simpa [overflowCheck, queueFull] using h

/-- The checks of a queued write pass exactly inside a line, at a pixel that is not negative, with room
in every queue. -/
theorem queuedChecks_eq_none {s : State} {px : Int} {cap : Nat} {qs : List ChangeQueue} :
    (writePre s px).or (overflowCheck cap qs) = none ↔
      (s.lineActive = true ∧ 0 ≤ px) ∧ ∀ q ∈ qs, q.length ≠ cap := by
  rw [Option.or_eq_none_iff, writePre_eq_none, overflowCheck_eq_none]

/-! ## Queues -/

/-- Insertion adds one record. -/
@[simp] theorem length_enqueue (c : Change) (q : ChangeQueue) : (enqueue c q).length = q.length + 1 := by
  induction q with
  | nil => rfl
  | cons x q ih => simp only [enqueue]; split <;> simp [ih]

/-- Insertion adds the record and keeps the others. -/
@[simp] theorem mem_enqueue {c x : Change} {q : ChangeQueue} : x ∈ enqueue c q ↔ x = c ∨ x ∈ q := by
  induction q with
  | nil => simp [enqueue]
  | cons y q ih => simp only [enqueue]; split <;> (simp [ih]; try tauto)

/-- Insertion keeps a queue sorted. -/
theorem sortedQueue_enqueue {c : Change} {q : ChangeQueue} (h : sortedQueue q) :
    sortedQueue (enqueue c q) := by
  induction q with
  | nil => simp [enqueue, sortedQueue]
  | cons x q ih =>
    have hx := List.pairwise_cons.1 h
    simp only [enqueue]
    split
    · rename_i hall
      simp only [List.all_cons, Bool.and_eq_true, decide_eq_true_eq, List.all_eq_true] at hall
      refine List.pairwise_cons.2 ⟨fun y hy => ?_, h⟩
      rcases List.mem_cons.1 hy with rfl | hy
      · exact le_of_lt hall.1
      · exact le_of_lt (hall.2 y hy)
    · rename_i hall
      refine List.pairwise_cons.2 ⟨fun y hy => ?_, ih hx.2⟩
      rcases mem_enqueue.1 hy with rfl | hy
      · by_contra hlt
        apply hall
        simp only [List.all_cons, Bool.and_eq_true, decide_eq_true_eq, List.all_eq_true]
        exact ⟨lt_of_not_ge hlt, fun z hz => lt_of_lt_of_le (lt_of_not_ge hlt) (hx.1 z hz)⟩
      · exact hx.1 y hy

/-! ## Replay -/

section Replay

variable {σ : Type} {hpixels : Nat} {apply : σ → Change → σ} {pixel : σ → Nat → σ}

/-- What every processed pixel of the line keeps, a run of pixels keeps. -/
theorem pixelRun_keeps {P : σ → Prop} {p n : Nat} {st : σ}
    (hpixel : ∀ x p, P x → P (pixel x p)) (h : P st) : P (pixelRun pixel st p n) := by
  induction n generalizing st p with
  | zero => exact h
  | succ n ih => exact ih (hpixel _ _ h)

/-- What every applied change and every processed pixel keeps, a replay keeps. -/
theorem replay_keeps {P : σ → Prop} {q : ChangeQueue} {st : σ}
    (happly : ∀ x, ∀ c ∈ q, P x → P (apply x c)) (hpixel : ∀ x p, P x → P (pixel x p)) (h : P st) :
    P (replay hpixels apply pixel q st) := by
  suffices ∀ p, P (replayFrom hpixels apply pixel q st p) from this 0
  induction q generalizing st with
  | nil => exact fun p => pixelRun_keeps hpixel h
  | cons c q ih =>
    intro p
    exact ih (fun x d hd => happly x d (List.mem_cons_of_mem _ hd))
      (happly _ _ (List.mem_cons_self ..) (pixelRun_keeps hpixel h)) _

/-- A part of the replay state that no pixel changes ends as the changes, applied in order, leave it. -/
theorem replay_part {τ : Type} (f : σ → τ) (g : τ → Change → τ) (q : ChangeQueue) (st : σ)
    (happly : ∀ x c, f (apply x c) = g (f x) c) (hpixel : ∀ x p, f (pixel x p) = f x) :
    f (replay hpixels apply pixel q st) = q.foldl g (f st) := by
  have hrun : ∀ n (x : σ) p, f (pixelRun pixel x p n) = f x := by
    intro n
    induction n with
    | zero => intro x p; rfl
    | succ n ih => intro x p; rw [pixelRun, ih, hpixel]
  suffices ∀ p, f (replayFrom hpixels apply pixel q st p) = q.foldl g (f st) from this 0
  induction q generalizing st with
  | nil => intro p; exact hrun _ _ _
  | cons c q ih => intro p; rw [replayFrom, ih, happly, hrun, List.foldl_cons]

/-- A part of the state that the changes picked out by `sel` set and the others leave ends, after all
changes of a queue, as the last of those sets it. -/
theorem foldl_last {τ β : Type} (f : τ → β) (g : τ → Change → τ) (sel : Change → Bool)
    (val : Change → β) (h : ∀ x c, f (g x c) = if sel c then val c else f x) (q : ChangeQueue) (st : τ) :
    f (q.foldl g st) = ((q.filter sel).getLast?.map val).getD (f st) := by
  induction q generalizing st with
  | nil => rfl
  | cons c q ih =>
    rw [List.foldl_cons, ih, h, List.filter_cons]
    cases sel c
    · rfl
    · cases hq : q.filter sel with
      | nil => simp
      | cons d l => simp [List.getLast?_cons]

/-- A register that its own records set ends, after the changes of a queue up to position `p`, at the
value it has at `p`. -/
theorem foldl_valueAt {τ : Type} (f : τ → Word) (g : τ → Change → τ) (id : RegId)
    (h : ∀ x c, f (g x c) = if c.registerId = id then c.value else f x) (q : ChangeQueue) (st : τ)
    (p : Nat) :
    f ((q.filter fun c => decide (c.triggerPixel ≤ (p : Int))).foldl g st) = valueAt q id (f st) p := by
  rw [foldl_last f g (fun c => decide (c.registerId = id)) (·.value) (fun x c => by simp [h]),
    List.filter_filter]
  simp only [valueAt, changesAt, Bool.decide_and]

@[simp] theorem valueAt_nil (id : RegId) (old : Word) (p : Nat) : valueAt [] id old p = old := rfl

@[simp] theorem colorsAt_nil (old : Vector Color 32) (p : Nat) : colorsAt [] old p = old := by
  ext i
  simp [colorsAt, changesAt]

theorem replayable_nil : replayable [] := ⟨List.Pairwise.nil, fun _ h => nomatch h⟩

end Replay

/-! ## Scanline buffers -/

@[simp] theorem length_setPixel {w : Nat} (b : List (BitVec w)) (p : Nat) (v : BitVec w) :
    (setPixel b p v).length = b.length := by simp [setPixel]

/-- Reading back a position after a write. -/
theorem pixelAt_setPixel {w : Nat} (b : List (BitVec w)) (p q : Nat) (v : BitVec w) :
    pixelAt (setPixel b p v) q = if q = p ∧ p < b.length then v else pixelAt b q := by
  simp only [pixelAt, setPixel, List.getD_eq_getElem?_getD, List.getElem?_set]
  by_cases h : p = q
  · subst h
    by_cases hp : p < b.length <;> simp [hp]
  · simp [h, Ne.symm h]

/-- A write changes at most one entry. -/
theorem mem_setPixel {w : Nat} {b : List (BitVec w)} {p : Nat} {v x : BitVec w}
    (h : x ∈ setPixel b p v) : x ∈ b ∨ x = v := List.mem_or_eq_of_mem_set h

theorem pixelAt_mem {w : Nat} {b : List (BitVec w)} {p : Nat} : pixelAt b p ∈ b ∨ pixelAt b p = 0 := by
  unfold pixelAt
  rw [List.getD_eq_getElem?_getD]
  rcases h : b[p]? with _ | x
  · exact .inr rfl
  · exact .inl (by simpa using List.mem_of_getElem? h)

/-! ## The frame-buffer store -/

section Sparse

variable {α : Type} {d : α}

/-- A key below every listed key reads the default. -/
theorem sparseGet_eq_default {m : List (Nat × α)} {k : Nat} (h : ∀ x ∈ m, k < x.1) :
    sparseGet d m k = d := by
  induction m with
  | nil => rfl
  | cons x m ih =>
    have := h x (List.mem_cons_self ..)
    rw [sparseGet, if_neg (by omega), ih fun y hy => h y (List.mem_cons_of_mem _ hy)]

/-- What reads as something else than the default is listed. -/
theorem sparseGet_mem {m : List (Nat × α)} {k : Nat} (h : sparseGet d m k ≠ d) :
    (k, sparseGet d m k) ∈ m := by
  induction m with
  | nil => exact absurd rfl h
  | cons x m ih =>
    obtain ⟨j, b⟩ := x
    simp only [sparseGet] at h ⊢
    split_ifs at h ⊢ with hk
    · subst hk; exact List.mem_cons_self ..
    · exact List.mem_cons_of_mem _ (ih h)

variable [DecidableEq α]

/-- A write leaves every other key as it was. -/
theorem sparseGet_sparseSet_of_ne {m : List (Nat × α)} {k l : Nat} {a : α} (h : l ≠ k) :
    sparseGet d (sparseSet d m k a) l = sparseGet d m l := by
  induction m with
  | nil => simp only [sparseSet]; split <;> simp [sparseGet, h]
  | cons x m ih =>
    obtain ⟨j, b⟩ := x
    simp only [sparseSet]
    split_ifs with h₁ h₂ h₃ h₄ <;> simp_all [sparseGet]

theorem sparseWf_cons {j : Nat} {b : α} {m : List (Nat × α)} :
    sparseWf d ((j, b) :: m) = true ↔ (∀ x ∈ m, j < x.1) ∧ b ≠ d ∧ sparseWf d m = true := by
  simp only [sparseWf, List.pairwise_cons, List.all_cons, Bool.and_eq_true, decide_eq_true_eq]
  tauto

/-- In canonical form, a write is read back. -/
theorem sparseGet_sparseSet_self {m : List (Nat × α)} {k : Nat} {a : α} (hm : sparseWf d m = true) :
    sparseGet d (sparseSet d m k a) k = a := by
  induction m with
  | nil => simp only [sparseSet]; split <;> simp_all [sparseGet]
  | cons x m ih =>
    obtain ⟨j, b⟩ := x
    obtain ⟨hj, hb, hm⟩ := sparseWf_cons.1 hm
    simp only [sparseSet]
    split_ifs with h₁ h₂ h₃ h₄
    · subst h₂
      rw [sparseGet, if_neg (by omega)]
      exact sparseGet_eq_default fun x hx => Nat.lt_trans h₁ (hj x hx)
    · simp [sparseGet]
    · subst h₃ h₄
      exact sparseGet_eq_default hj
    · simp [sparseGet]
    · rw [sparseGet, if_neg h₃, ih hm]

theorem mem_sparseSet {m : List (Nat × α)} {k : Nat} {a : α} {x : Nat × α}
    (h : x ∈ sparseSet d m k a) : x ∈ m ∨ (x = (k, a) ∧ a ≠ d) := by
  induction m with
  | nil =>
    simp only [sparseSet] at h
    split at h
    · simp at h
    · exact .inr ⟨by simpa using h, ‹_›⟩
  | cons y m ih =>
    obtain ⟨j, b⟩ := y
    simp only [sparseSet] at h
    split_ifs at h with h₁ h₂ h₃ h₄
    · exact .inl h
    · rcases List.mem_cons.1 h with rfl | h
      · exact .inr ⟨rfl, h₂⟩
      · exact .inl h
    · exact .inl (List.mem_cons_of_mem _ h)
    · rcases List.mem_cons.1 h with rfl | h
      · exact .inr ⟨rfl, h₄⟩
      · exact .inl (List.mem_cons_of_mem _ h)
    · rcases List.mem_cons.1 h with rfl | h
      · exact .inl (List.mem_cons_self ..)
      · exact (ih h).imp (List.mem_cons_of_mem _) id

/-- A write keeps the canonical form. -/
theorem sparseWf_sparseSet {m : List (Nat × α)} {k : Nat} {a : α} (hm : sparseWf d m = true) :
    sparseWf d (sparseSet d m k a) = true := by
  induction m with
  | nil => simp only [sparseSet]; split <;> simp_all [sparseWf]
  | cons x m ih =>
    obtain ⟨j, b⟩ := x
    obtain ⟨hj, hb, hm'⟩ := sparseWf_cons.1 hm
    simp only [sparseSet]
    split_ifs with h₁ h₂ h₃ h₄
    · exact hm
    · refine sparseWf_cons.2 ⟨fun x hx => ?_, h₂, hm⟩
      rcases List.mem_cons.1 hx with rfl | hx
      · exact h₁
      · exact Nat.lt_trans h₁ (hj x hx)
    · exact hm'
    · subst h₃
      exact sparseWf_cons.2 ⟨hj, h₄, hm'⟩
    · refine sparseWf_cons.2 ⟨fun x hx => ?_, hb, ih hm'⟩
      rcases mem_sparseSet hx with hx | ⟨rfl, -⟩
      · exact hj x hx
      · exact Nat.lt_of_le_of_ne (Nat.le_of_not_lt h₁) (Ne.symm h₃)

end Sparse

theorem Memory.wf_rows {m : Memory} (hm : m.wf = true) : sparseWf [] m = true := by
  simp only [Memory.wf, Bool.and_eq_true] at hm
  exact hm.1

/-- Every row of a canonical frame buffer is canonical, listed or not. -/
theorem Memory.wf_row {m : Memory} (hm : m.wf = true) (row : Nat) :
    sparseWf Cell.reset (sparseGet [] m row) = true := by
  by_cases h : sparseGet [] m row = []
  · rw [h]; rfl
  · simp only [Memory.wf, Bool.and_eq_true, List.all_eq_true] at hm
    exact hm.2 _ (sparseGet_mem h)

/-- In canonical form, a written cell is read back. -/
theorem Memory.read_write_self {m : Memory} {row col : Nat} {c : Cell} (hm : m.wf = true) :
    (m.write row col c).read row col = c := by
  rw [Memory.read, Memory.write, sparseGet_sparseSet_self (Memory.wf_rows hm),
    sparseGet_sparseSet_self (Memory.wf_row hm row)]

/-- In canonical form, a write leaves every other cell as it was. -/
theorem Memory.read_write_of_ne {m : Memory} {row col row' col' : Nat} {c : Cell} (hm : m.wf = true)
    (h : row' ≠ row ∨ col' ≠ col) : (m.write row col c).read row' col' = m.read row' col' := by
  rw [Memory.read, Memory.read, Memory.write]
  by_cases hr : row' = row
  · subst hr
    rw [sparseGet_sparseSet_self (Memory.wf_rows hm),
      sparseGet_sparseSet_of_ne (h.resolve_left fun hn => hn rfl)]
  · rw [sparseGet_sparseSet_of_ne hr]

/-- A write to another row leaves a row as it was, in any form. -/
theorem Memory.read_write_row_ne {m : Memory} {row col row' col' : Nat} {c : Cell}
    (h : row' ≠ row) : (m.write row col c).read row' col' = m.read row' col' := by
  rw [Memory.read, Memory.read, Memory.write, sparseGet_sparseSet_of_ne h]

/-- A write keeps the canonical form. -/
theorem Memory.wf_write {m : Memory} {row col : Nat} {c : Cell} (hm : m.wf = true) :
    (m.write row col c).wf = true := by
  have hrow := Memory.wf_row hm row
  have hrows := sparseWf_sparseSet (k := row)
    (a := sparseSet Cell.reset (sparseGet [] m row) col c) (Memory.wf_rows hm)
  simp only [Memory.wf, Bool.and_eq_true, List.all_eq_true]
  refine ⟨hrows, fun x hx => ?_⟩
  rcases mem_sparseSet hx with hx | ⟨rfl, -⟩
  · simp only [Memory.wf, Bool.and_eq_true, List.all_eq_true] at hm
    exact hm.2 _ hx
  · exact sparseWf_sparseSet hrow

/-- The empty frame buffer is canonical. -/
theorem Memory.wf_nil : Memory.wf [] = true := rfl

theorem foldl_keeps {α β : Type} {P : α → Prop} {f : α → β → α} {l : List β} {a : α}
    (hf : ∀ a b, P a → P (f a b)) (h : P a) : P (l.foldl f a) := by
  induction l generalizing a with
  | nil => exact h
  | cons b l ih => exact ih (hf _ _ h)

/-- A tabulated frame buffer is canonical. -/
theorem Memory.wf_tabulate (rows cols : Nat) (f : Nat → Nat → Cell) :
    (Memory.tabulate rows cols f).wf = true :=
  foldl_keeps (P := fun m : Memory => m.wf = true)
    (fun _ _ h => foldl_keeps (P := fun m : Memory => m.wf = true)
      (fun _ _ h => Memory.wf_write h) h) Memory.wf_nil

/-- Every frame buffer of the reset state is canonical. -/
theorem reset_memory_wf : ∀ f ∈ State.reset.fb, f.cells.wf = true := by decide

@[simp] theorem length_fbWrite (par : Params) (fb : List FrameBuffer) (b row col : Nat) (c : Cell) :
    (fbWrite par fb b row col c).length = fb.length := by
  unfold fbWrite; split <;> simp

/-- A buffer after a buffer of the ring is replaced. -/
theorem bufferAt_set (fb : List FrameBuffer) (b b' : Nat) (f : FrameBuffer) :
    bufferAt (fb.set b f) b' = if b' = b ∧ b < fb.length then f else bufferAt fb b' := by
  simp only [bufferAt, List.getD_eq_getElem?_getD, List.getElem?_set]
  by_cases h : b = b'
  · subst h
    by_cases hp : b < fb.length <;> simp [hp]
  · simp [h, Ne.symm h]

/-- A cell write leaves every other buffer as it was. -/
theorem bufferAt_fbWrite_of_ne {par : Params} {fb : List FrameBuffer} {b b' row col : Nat} {c : Cell}
    (h : b' ≠ b) : bufferAt (fbWrite par fb b row col c) b' = bufferAt fb b' := by
  unfold fbWrite
  split
  · rw [bufferAt_set, if_neg fun hb => h hb.1]
  · rfl

/-- A cell write keeps every buffer canonical. -/
theorem fbWrite_wf {par : Params} {fb : List FrameBuffer} {b row col : Nat} {c : Cell}
    (h : ∀ f ∈ fb, f.cells.wf = true) : ∀ f ∈ fbWrite par fb b row col c, f.cells.wf = true := by
  intro f hf
  unfold fbWrite at hf
  split at hf
  · rcases List.mem_or_eq_of_mem_set hf with hf | rfl
    · exact h f hf
    · refine Memory.wf_write ?_
      rw [bufferAt, List.getD_eq_getElem?_getD]
      rcases hb : fb[b]? with _ | g
      · rfl
      · exact h g (List.mem_of_getElem? hb)
  · exact h f hf

/-! ## The lookup table -/

theorem getElem?_tabulateFrom (f : Nat → Device) (i n k : Nat) (h : k < n) :
    (tabulateFrom f i n)[k]? = some (f (i + k)) := by
  induction n generalizing i k with
  | zero => omega
  | succ n ih =>
    cases k with
    | zero => simp [tabulateFrom]
    | succ k => rw [tabulateFrom, List.getElem?_cons_succ, ih _ _ (by omega)]; congr 2; omega

/-- An entry of a lookup table is the color its function gives. -/
theorem lutTable_get (f : LutId) (m : Monitor) (c : Nat) (h : c < 4096) :
    (lutTable f m)[c] = lutOf f m (BitVec.ofNat 12 c) := by
  have := getElem?_tabulateFrom (fun c => lutOf f m (BitVec.ofNat 12 c)) 0 4096 c h
  rw [Nat.zero_add, List.getElem?_eq_some_iff] at this
  exact this.2

end Sys2Proof.Machine
end

