-- ==== Sys2Proof/Laws/PerInstr.lean ====
section
/-! SUPPORT. One lemma per operation: the bits 15:11 of its access word are 0, as both formats of
spec/30_encoding.md R90 demand. -/

namespace Sys2Proof.Laws.ReservedBitsZero

/-- Bits 15:11 of the operation's access word are 0 (R90). -/
def Statement (i : Instr) : Prop := reservedField (encode i).word = 0

theorem wClxcon (v : Word) (px : Int) : Statement (.wClxcon v px) := reservedField_regWord ..
theorem wDiwstrt (v : Word) (px : Int) : Statement (.wDiwstrt v px) := reservedField_regWord ..
theorem wDiwstop (v : Word) (px : Int) : Statement (.wDiwstop v px) := reservedField_regWord ..
theorem wBplcon0 (v : Word) (px : Int) : Statement (.wBplcon0 v px) := reservedField_regWord ..
theorem wBplcon1 (v : Word) (px : Int) : Statement (.wBplcon1 v px) := reservedField_regWord ..
theorem wBplcon2 (v : Word) (px : Int) : Statement (.wBplcon2 v px) := reservedField_regWord ..
theorem wBplcon3 (v : Word) (px : Int) : Statement (.wBplcon3 v px) := reservedField_regWord ..
theorem wBpl1dat (v : Word) (px : Int) : Statement (.wBpl1dat v px) := reservedField_regWord ..
theorem wBpl2dat (v : Word) (px : Int) : Statement (.wBpl2dat v px) := reservedField_regWord ..
theorem wBpl3dat (v : Word) (px : Int) : Statement (.wBpl3dat v px) := reservedField_regWord ..
theorem wBpl4dat (v : Word) (px : Int) : Statement (.wBpl4dat v px) := reservedField_regWord ..
theorem wBpl5dat (v : Word) (px : Int) : Statement (.wBpl5dat v px) := reservedField_regWord ..
theorem wBpl6dat (v : Word) (px : Int) : Statement (.wBpl6dat v px) := reservedField_regWord ..
theorem wSpr0pos (v : Word) (px : Int) : Statement (.wSpr0pos v px) := reservedField_regWord ..
theorem wSpr0ctl (v : Word) (px : Int) : Statement (.wSpr0ctl v px) := reservedField_regWord ..
theorem wSpr0data (v : Word) (px : Int) : Statement (.wSpr0data v px) := reservedField_regWord ..
theorem wSpr0datb (v : Word) (px : Int) : Statement (.wSpr0datb v px) := reservedField_regWord ..
theorem wSpr1pos (v : Word) (px : Int) : Statement (.wSpr1pos v px) := reservedField_regWord ..
theorem wSpr1ctl (v : Word) (px : Int) : Statement (.wSpr1ctl v px) := reservedField_regWord ..
theorem wSpr1data (v : Word) (px : Int) : Statement (.wSpr1data v px) := reservedField_regWord ..
theorem wSpr1datb (v : Word) (px : Int) : Statement (.wSpr1datb v px) := reservedField_regWord ..
theorem wSpr2pos (v : Word) (px : Int) : Statement (.wSpr2pos v px) := reservedField_regWord ..
theorem wSpr2ctl (v : Word) (px : Int) : Statement (.wSpr2ctl v px) := reservedField_regWord ..
theorem wSpr2data (v : Word) (px : Int) : Statement (.wSpr2data v px) := reservedField_regWord ..
theorem wSpr2datb (v : Word) (px : Int) : Statement (.wSpr2datb v px) := reservedField_regWord ..
theorem wSpr3pos (v : Word) (px : Int) : Statement (.wSpr3pos v px) := reservedField_regWord ..
theorem wSpr3ctl (v : Word) (px : Int) : Statement (.wSpr3ctl v px) := reservedField_regWord ..
theorem wSpr3data (v : Word) (px : Int) : Statement (.wSpr3data v px) := reservedField_regWord ..
theorem wSpr3datb (v : Word) (px : Int) : Statement (.wSpr3datb v px) := reservedField_regWord ..
theorem wSpr4pos (v : Word) (px : Int) : Statement (.wSpr4pos v px) := reservedField_regWord ..
theorem wSpr4ctl (v : Word) (px : Int) : Statement (.wSpr4ctl v px) := reservedField_regWord ..
theorem wSpr4data (v : Word) (px : Int) : Statement (.wSpr4data v px) := reservedField_regWord ..
theorem wSpr4datb (v : Word) (px : Int) : Statement (.wSpr4datb v px) := reservedField_regWord ..
theorem wSpr5pos (v : Word) (px : Int) : Statement (.wSpr5pos v px) := reservedField_regWord ..
theorem wSpr5ctl (v : Word) (px : Int) : Statement (.wSpr5ctl v px) := reservedField_regWord ..
theorem wSpr5data (v : Word) (px : Int) : Statement (.wSpr5data v px) := reservedField_regWord ..
theorem wSpr5datb (v : Word) (px : Int) : Statement (.wSpr5datb v px) := reservedField_regWord ..
theorem wSpr6pos (v : Word) (px : Int) : Statement (.wSpr6pos v px) := reservedField_regWord ..
theorem wSpr6ctl (v : Word) (px : Int) : Statement (.wSpr6ctl v px) := reservedField_regWord ..
theorem wSpr6data (v : Word) (px : Int) : Statement (.wSpr6data v px) := reservedField_regWord ..
theorem wSpr6datb (v : Word) (px : Int) : Statement (.wSpr6datb v px) := reservedField_regWord ..
theorem wSpr7pos (v : Word) (px : Int) : Statement (.wSpr7pos v px) := reservedField_regWord ..
theorem wSpr7ctl (v : Word) (px : Int) : Statement (.wSpr7ctl v px) := reservedField_regWord ..
theorem wSpr7data (v : Word) (px : Int) : Statement (.wSpr7data v px) := reservedField_regWord ..
theorem wSpr7datb (v : Word) (px : Int) : Statement (.wSpr7datb v px) := reservedField_regWord ..
theorem wColor00 (v : Word) (px : Int) : Statement (.wColor00 v px) := reservedField_regWord ..
theorem wColor01 (v : Word) (px : Int) : Statement (.wColor01 v px) := reservedField_regWord ..
theorem wColor02 (v : Word) (px : Int) : Statement (.wColor02 v px) := reservedField_regWord ..
theorem wColor03 (v : Word) (px : Int) : Statement (.wColor03 v px) := reservedField_regWord ..
theorem wColor04 (v : Word) (px : Int) : Statement (.wColor04 v px) := reservedField_regWord ..
theorem wColor05 (v : Word) (px : Int) : Statement (.wColor05 v px) := reservedField_regWord ..
theorem wColor06 (v : Word) (px : Int) : Statement (.wColor06 v px) := reservedField_regWord ..
theorem wColor07 (v : Word) (px : Int) : Statement (.wColor07 v px) := reservedField_regWord ..
theorem wColor08 (v : Word) (px : Int) : Statement (.wColor08 v px) := reservedField_regWord ..
theorem wColor09 (v : Word) (px : Int) : Statement (.wColor09 v px) := reservedField_regWord ..
theorem wColor10 (v : Word) (px : Int) : Statement (.wColor10 v px) := reservedField_regWord ..
theorem wColor11 (v : Word) (px : Int) : Statement (.wColor11 v px) := reservedField_regWord ..
theorem wColor12 (v : Word) (px : Int) : Statement (.wColor12 v px) := reservedField_regWord ..
theorem wColor13 (v : Word) (px : Int) : Statement (.wColor13 v px) := reservedField_regWord ..
theorem wColor14 (v : Word) (px : Int) : Statement (.wColor14 v px) := reservedField_regWord ..
theorem wColor15 (v : Word) (px : Int) : Statement (.wColor15 v px) := reservedField_regWord ..
theorem wColor16 (v : Word) (px : Int) : Statement (.wColor16 v px) := reservedField_regWord ..
theorem wColor17 (v : Word) (px : Int) : Statement (.wColor17 v px) := reservedField_regWord ..
theorem wColor18 (v : Word) (px : Int) : Statement (.wColor18 v px) := reservedField_regWord ..
theorem wColor19 (v : Word) (px : Int) : Statement (.wColor19 v px) := reservedField_regWord ..
theorem wColor20 (v : Word) (px : Int) : Statement (.wColor20 v px) := reservedField_regWord ..
theorem wColor21 (v : Word) (px : Int) : Statement (.wColor21 v px) := reservedField_regWord ..
theorem wColor22 (v : Word) (px : Int) : Statement (.wColor22 v px) := reservedField_regWord ..
theorem wColor23 (v : Word) (px : Int) : Statement (.wColor23 v px) := reservedField_regWord ..
theorem wColor24 (v : Word) (px : Int) : Statement (.wColor24 v px) := reservedField_regWord ..
theorem wColor25 (v : Word) (px : Int) : Statement (.wColor25 v px) := reservedField_regWord ..
theorem wColor26 (v : Word) (px : Int) : Statement (.wColor26 v px) := reservedField_regWord ..
theorem wColor27 (v : Word) (px : Int) : Statement (.wColor27 v px) := reservedField_regWord ..
theorem wColor28 (v : Word) (px : Int) : Statement (.wColor28 v px) := reservedField_regWord ..
theorem wColor29 (v : Word) (px : Int) : Statement (.wColor29 v px) := reservedField_regWord ..
theorem wColor30 (v : Word) (px : Int) : Statement (.wColor30 v px) := reservedField_regWord ..
theorem wColor31 (v : Word) (px : Int) : Statement (.wColor31 v px) := reservedField_regWord ..
theorem wClxdat (v : Word) (px : Int) : Statement (.wClxdat v px) := reservedField_regWord ..
theorem rClxdat : Statement .rClxdat := reservedField_regWord ..
theorem wOther (addr : Offset) (v : Word) (px : Int) : Statement (.wOther addr v px) := reservedField_regWord ..
theorem rOther (addr : Offset) : Statement (.rOther addr) := reservedField_regWord ..
theorem reset : Statement .reset := reservedField_evtWord ..
theorem bof (lof : Bool) : Statement (.bof lof) := reservedField_evtWord ..
theorem bol (vpos : Word) (f d : Bool) : Statement (.bol vpos f d) := reservedField_evtWord ..
theorem eol (vpos : Word) : Statement (.eol vpos) := reservedField_evtWord ..
theorem eof : Statement .eof := reservedField_evtWord ..
theorem stable (offset : Word) : Statement (.stable offset) := reservedField_evtWord ..
theorem spren (n : BitVec 3) (on : Bool) (px : Int) : Statement (.spren n on px) := reservedField_evtWord ..
theorem config (cfg : ConfigUpdate) : Statement (.config cfg) := reservedField_evtWord ..

end Sys2Proof.Laws.ReservedBitsZero
end

