-- ==== Sys2Proof/Laws/State.lean ====
section
/-! SUPPORT. What each named update of the state does to each field: one lemma per field per update. -/

namespace Sys2Proof.Machine

variable (s : State)

/-! ## raiseFatal -/

@[simp] theorem raiseFatal_par (k : FatalKind) : (s.raiseFatal k).par = s.par := rfl
@[simp] theorem raiseFatal_config (k : FatalKind) : (s.raiseFatal k).config = s.config := rfl
@[simp] theorem raiseFatal_reg (k : FatalKind) : (s.raiseFatal k).reg = s.reg := rfl
@[simp] theorem raiseFatal_clxdat (k : FatalKind) : (s.raiseFatal k).clxdat = s.clxdat := rfl
@[simp] theorem raiseFatal_bpldat (k : FatalKind) : (s.raiseFatal k).bpldat = s.bpldat := rfl
@[simp] theorem raiseFatal_pipe (k : FatalKind) : (s.raiseFatal k).pipe = s.pipe := rfl
@[simp] theorem raiseFatal_shift (k : FatalKind) : (s.raiseFatal k).shift = s.shift := rfl
@[simp] theorem raiseFatal_armedOdd (k : FatalKind) : (s.raiseFatal k).armedOdd = s.armedOdd := rfl
@[simp] theorem raiseFatal_armedEven (k : FatalKind) : (s.raiseFatal k).armedEven = s.armedEven := rfl
@[simp] theorem raiseFatal_ctrl (k : FatalKind) : (s.raiseFatal k).ctrl = s.ctrl := rfl
@[simp] theorem raiseFatal_spr (k : FatalKind) : (s.raiseFatal k).spr = s.spr := rfl
@[simp] theorem raiseFatal_diw (k : FatalKind) : (s.raiseFatal k).diw = s.diw := rfl
@[simp] theorem raiseFatal_col (k : FatalKind) : (s.raiseFatal k).col = s.col := rfl
@[simp] theorem raiseFatal_qCtrl (k : FatalKind) : (s.raiseFatal k).qCtrl = s.qCtrl := rfl
@[simp] theorem raiseFatal_qSpr (k : FatalKind) : (s.raiseFatal k).qSpr = s.qSpr := rfl
@[simp] theorem raiseFatal_qDiw (k : FatalKind) : (s.raiseFatal k).qDiw = s.qDiw := rfl
@[simp] theorem raiseFatal_qCol (k : FatalKind) : (s.raiseFatal k).qCol = s.qCol := rfl
@[simp] theorem raiseFatal_buf (k : FatalKind) : (s.raiseFatal k).buf = s.buf := rfl
@[simp] theorem raiseFatal_lut (k : FatalKind) : (s.raiseFatal k).lut = s.lut := rfl
@[simp] theorem raiseFatal_fb (k : FatalKind) : (s.raiseFatal k).fb = s.fb := rfl
@[simp] theorem raiseFatal_writeIndex (k : FatalKind) : (s.raiseFatal k).writeIndex = s.writeIndex := rfl
@[simp] theorem raiseFatal_frameCounter (k : FatalKind) : (s.raiseFatal k).frameCounter = s.frameCounter := rfl
@[simp] theorem raiseFatal_frameActive (k : FatalKind) : (s.raiseFatal k).frameActive = s.frameActive := rfl
@[simp] theorem raiseFatal_lineActive (k : FatalKind) : (s.raiseFatal k).lineActive = s.lineActive := rfl
@[simp] theorem raiseFatal_curVpos (k : FatalKind) : (s.raiseFatal k).curVpos = s.curVpos := rfl
@[simp] theorem raiseFatal_curLof (k : FatalKind) : (s.raiseFatal k).curLof = s.curLof := rfl
@[simp] theorem raiseFatal_vFlop (k : FatalKind) : (s.raiseFatal k).vFlop = s.vFlop := rfl
@[simp] theorem raiseFatal_bplDmaLine (k : FatalKind) : (s.raiseFatal k).bplDmaLine = s.bplDmaLine := rfl
@[simp] theorem raiseFatal_clipBegin (k : FatalKind) : (s.raiseFatal k).clipBegin = s.clipBegin := rfl
@[simp] theorem raiseFatal_clipEnd (k : FatalKind) : (s.raiseFatal k).clipEnd = s.clipEnd := rfl
@[simp] theorem raiseFatal_fatal (k : FatalKind) : (s.raiseFatal k).fatal = some k := rfl
@[simp] theorem raiseFatal_diagLog (k : FatalKind) : (s.raiseFatal k).diagLog = s.diagLog := rfl
@[simp] theorem raiseFatal_input (k : FatalKind) : (s.raiseFatal k).input = s.input := rfl
@[simp] theorem raiseFatal_responses (k : FatalKind) : (s.raiseFatal k).responses = s.responses := rfl
@[simp] theorem raiseFatal_freeCount (k : FatalKind) : (s.raiseFatal k).freeCount = s.freeCount := rfl

/-! ## logDiag -/

@[simp] theorem logDiag_par (k : DiagKind) (v : Word) : (s.logDiag k v).par = s.par := rfl
@[simp] theorem logDiag_config (k : DiagKind) (v : Word) : (s.logDiag k v).config = s.config := rfl
@[simp] theorem logDiag_reg (k : DiagKind) (v : Word) : (s.logDiag k v).reg = s.reg := rfl
@[simp] theorem logDiag_clxdat (k : DiagKind) (v : Word) : (s.logDiag k v).clxdat = s.clxdat := rfl
@[simp] theorem logDiag_bpldat (k : DiagKind) (v : Word) : (s.logDiag k v).bpldat = s.bpldat := rfl
@[simp] theorem logDiag_pipe (k : DiagKind) (v : Word) : (s.logDiag k v).pipe = s.pipe := rfl
@[simp] theorem logDiag_shift (k : DiagKind) (v : Word) : (s.logDiag k v).shift = s.shift := rfl
@[simp] theorem logDiag_armedOdd (k : DiagKind) (v : Word) : (s.logDiag k v).armedOdd = s.armedOdd := rfl
@[simp] theorem logDiag_armedEven (k : DiagKind) (v : Word) : (s.logDiag k v).armedEven = s.armedEven := rfl
@[simp] theorem logDiag_ctrl (k : DiagKind) (v : Word) : (s.logDiag k v).ctrl = s.ctrl := rfl
@[simp] theorem logDiag_spr (k : DiagKind) (v : Word) : (s.logDiag k v).spr = s.spr := rfl
@[simp] theorem logDiag_diw (k : DiagKind) (v : Word) : (s.logDiag k v).diw = s.diw := rfl
@[simp] theorem logDiag_col (k : DiagKind) (v : Word) : (s.logDiag k v).col = s.col := rfl
@[simp] theorem logDiag_qCtrl (k : DiagKind) (v : Word) : (s.logDiag k v).qCtrl = s.qCtrl := rfl
@[simp] theorem logDiag_qSpr (k : DiagKind) (v : Word) : (s.logDiag k v).qSpr = s.qSpr := rfl
@[simp] theorem logDiag_qDiw (k : DiagKind) (v : Word) : (s.logDiag k v).qDiw = s.qDiw := rfl
@[simp] theorem logDiag_qCol (k : DiagKind) (v : Word) : (s.logDiag k v).qCol = s.qCol := rfl
@[simp] theorem logDiag_buf (k : DiagKind) (v : Word) : (s.logDiag k v).buf = s.buf := rfl
@[simp] theorem logDiag_lut (k : DiagKind) (v : Word) : (s.logDiag k v).lut = s.lut := rfl
@[simp] theorem logDiag_fb (k : DiagKind) (v : Word) : (s.logDiag k v).fb = s.fb := rfl
@[simp] theorem logDiag_writeIndex (k : DiagKind) (v : Word) : (s.logDiag k v).writeIndex = s.writeIndex := rfl
@[simp] theorem logDiag_frameCounter (k : DiagKind) (v : Word) : (s.logDiag k v).frameCounter = s.frameCounter := rfl
@[simp] theorem logDiag_frameActive (k : DiagKind) (v : Word) : (s.logDiag k v).frameActive = s.frameActive := rfl
@[simp] theorem logDiag_lineActive (k : DiagKind) (v : Word) : (s.logDiag k v).lineActive = s.lineActive := rfl
@[simp] theorem logDiag_curVpos (k : DiagKind) (v : Word) : (s.logDiag k v).curVpos = s.curVpos := rfl
@[simp] theorem logDiag_curLof (k : DiagKind) (v : Word) : (s.logDiag k v).curLof = s.curLof := rfl
@[simp] theorem logDiag_vFlop (k : DiagKind) (v : Word) : (s.logDiag k v).vFlop = s.vFlop := rfl
@[simp] theorem logDiag_bplDmaLine (k : DiagKind) (v : Word) : (s.logDiag k v).bplDmaLine = s.bplDmaLine := rfl
@[simp] theorem logDiag_clipBegin (k : DiagKind) (v : Word) : (s.logDiag k v).clipBegin = s.clipBegin := rfl
@[simp] theorem logDiag_clipEnd (k : DiagKind) (v : Word) : (s.logDiag k v).clipEnd = s.clipEnd := rfl
@[simp] theorem logDiag_fatal (k : DiagKind) (v : Word) : (s.logDiag k v).fatal = s.fatal := rfl
@[simp] theorem logDiag_diagLog (k : DiagKind) (v : Word) : (s.logDiag k v).diagLog = s.diagLog ++ [{ kind := k, value := v }] := rfl
@[simp] theorem logDiag_input (k : DiagKind) (v : Word) : (s.logDiag k v).input = s.input := rfl
@[simp] theorem logDiag_responses (k : DiagKind) (v : Word) : (s.logDiag k v).responses = s.responses := rfl
@[simp] theorem logDiag_freeCount (k : DiagKind) (v : Word) : (s.logDiag k v).freeCount = s.freeCount := rfl

/-! ## respond -/

@[simp] theorem respond_par (r : Response) : (s.respond r).par = s.par := rfl
@[simp] theorem respond_config (r : Response) : (s.respond r).config = s.config := rfl
@[simp] theorem respond_reg (r : Response) : (s.respond r).reg = s.reg := rfl
@[simp] theorem respond_clxdat (r : Response) : (s.respond r).clxdat = s.clxdat := rfl
@[simp] theorem respond_bpldat (r : Response) : (s.respond r).bpldat = s.bpldat := rfl
@[simp] theorem respond_pipe (r : Response) : (s.respond r).pipe = s.pipe := rfl
@[simp] theorem respond_shift (r : Response) : (s.respond r).shift = s.shift := rfl
@[simp] theorem respond_armedOdd (r : Response) : (s.respond r).armedOdd = s.armedOdd := rfl
@[simp] theorem respond_armedEven (r : Response) : (s.respond r).armedEven = s.armedEven := rfl
@[simp] theorem respond_ctrl (r : Response) : (s.respond r).ctrl = s.ctrl := rfl
@[simp] theorem respond_spr (r : Response) : (s.respond r).spr = s.spr := rfl
@[simp] theorem respond_diw (r : Response) : (s.respond r).diw = s.diw := rfl
@[simp] theorem respond_col (r : Response) : (s.respond r).col = s.col := rfl
@[simp] theorem respond_qCtrl (r : Response) : (s.respond r).qCtrl = s.qCtrl := rfl
@[simp] theorem respond_qSpr (r : Response) : (s.respond r).qSpr = s.qSpr := rfl
@[simp] theorem respond_qDiw (r : Response) : (s.respond r).qDiw = s.qDiw := rfl
@[simp] theorem respond_qCol (r : Response) : (s.respond r).qCol = s.qCol := rfl
@[simp] theorem respond_buf (r : Response) : (s.respond r).buf = s.buf := rfl
@[simp] theorem respond_lut (r : Response) : (s.respond r).lut = s.lut := rfl
@[simp] theorem respond_fb (r : Response) : (s.respond r).fb = s.fb := rfl
@[simp] theorem respond_writeIndex (r : Response) : (s.respond r).writeIndex = s.writeIndex := rfl
@[simp] theorem respond_frameCounter (r : Response) : (s.respond r).frameCounter = s.frameCounter := rfl
@[simp] theorem respond_frameActive (r : Response) : (s.respond r).frameActive = s.frameActive := rfl
@[simp] theorem respond_lineActive (r : Response) : (s.respond r).lineActive = s.lineActive := rfl
@[simp] theorem respond_curVpos (r : Response) : (s.respond r).curVpos = s.curVpos := rfl
@[simp] theorem respond_curLof (r : Response) : (s.respond r).curLof = s.curLof := rfl
@[simp] theorem respond_vFlop (r : Response) : (s.respond r).vFlop = s.vFlop := rfl
@[simp] theorem respond_bplDmaLine (r : Response) : (s.respond r).bplDmaLine = s.bplDmaLine := rfl
@[simp] theorem respond_clipBegin (r : Response) : (s.respond r).clipBegin = s.clipBegin := rfl
@[simp] theorem respond_clipEnd (r : Response) : (s.respond r).clipEnd = s.clipEnd := rfl
@[simp] theorem respond_fatal (r : Response) : (s.respond r).fatal = s.fatal := rfl
@[simp] theorem respond_diagLog (r : Response) : (s.respond r).diagLog = s.diagLog := rfl
@[simp] theorem respond_input (r : Response) : (s.respond r).input = s.input := rfl
@[simp] theorem respond_responses (r : Response) : (s.respond r).responses = s.responses ++ [r] := rfl
@[simp] theorem respond_freeCount (r : Response) : (s.respond r).freeCount = s.freeCount := rfl

/-! ## drawFree -/

@[simp] theorem drawFree_par : (s.drawFree).par = s.par := rfl
@[simp] theorem drawFree_config : (s.drawFree).config = s.config := rfl
@[simp] theorem drawFree_reg : (s.drawFree).reg = s.reg := rfl
@[simp] theorem drawFree_clxdat : (s.drawFree).clxdat = s.clxdat := rfl
@[simp] theorem drawFree_bpldat : (s.drawFree).bpldat = s.bpldat := rfl
@[simp] theorem drawFree_pipe : (s.drawFree).pipe = s.pipe := rfl
@[simp] theorem drawFree_shift : (s.drawFree).shift = s.shift := rfl
@[simp] theorem drawFree_armedOdd : (s.drawFree).armedOdd = s.armedOdd := rfl
@[simp] theorem drawFree_armedEven : (s.drawFree).armedEven = s.armedEven := rfl
@[simp] theorem drawFree_ctrl : (s.drawFree).ctrl = s.ctrl := rfl
@[simp] theorem drawFree_spr : (s.drawFree).spr = s.spr := rfl
@[simp] theorem drawFree_diw : (s.drawFree).diw = s.diw := rfl
@[simp] theorem drawFree_col : (s.drawFree).col = s.col := rfl
@[simp] theorem drawFree_qCtrl : (s.drawFree).qCtrl = s.qCtrl := rfl
@[simp] theorem drawFree_qSpr : (s.drawFree).qSpr = s.qSpr := rfl
@[simp] theorem drawFree_qDiw : (s.drawFree).qDiw = s.qDiw := rfl
@[simp] theorem drawFree_qCol : (s.drawFree).qCol = s.qCol := rfl
@[simp] theorem drawFree_buf : (s.drawFree).buf = s.buf := rfl
@[simp] theorem drawFree_lut : (s.drawFree).lut = s.lut := rfl
@[simp] theorem drawFree_fb : (s.drawFree).fb = s.fb := rfl
@[simp] theorem drawFree_writeIndex : (s.drawFree).writeIndex = s.writeIndex := rfl
@[simp] theorem drawFree_frameCounter : (s.drawFree).frameCounter = s.frameCounter := rfl
@[simp] theorem drawFree_frameActive : (s.drawFree).frameActive = s.frameActive := rfl
@[simp] theorem drawFree_lineActive : (s.drawFree).lineActive = s.lineActive := rfl
@[simp] theorem drawFree_curVpos : (s.drawFree).curVpos = s.curVpos := rfl
@[simp] theorem drawFree_curLof : (s.drawFree).curLof = s.curLof := rfl
@[simp] theorem drawFree_vFlop : (s.drawFree).vFlop = s.vFlop := rfl
@[simp] theorem drawFree_bplDmaLine : (s.drawFree).bplDmaLine = s.bplDmaLine := rfl
@[simp] theorem drawFree_clipBegin : (s.drawFree).clipBegin = s.clipBegin := rfl
@[simp] theorem drawFree_clipEnd : (s.drawFree).clipEnd = s.clipEnd := rfl
@[simp] theorem drawFree_fatal : (s.drawFree).fatal = s.fatal := rfl
@[simp] theorem drawFree_diagLog : (s.drawFree).diagLog = s.diagLog := rfl
@[simp] theorem drawFree_input : (s.drawFree).input = s.input := rfl
@[simp] theorem drawFree_responses : (s.drawFree).responses = s.responses := rfl
@[simp] theorem drawFree_freeCount : (s.drawFree).freeCount = s.freeCount + 1 := rfl

/-! ## popInput -/

@[simp] theorem popInput_par : (s.popInput).par = s.par := rfl
@[simp] theorem popInput_config : (s.popInput).config = s.config := rfl
@[simp] theorem popInput_reg : (s.popInput).reg = s.reg := rfl
@[simp] theorem popInput_clxdat : (s.popInput).clxdat = s.clxdat := rfl
@[simp] theorem popInput_bpldat : (s.popInput).bpldat = s.bpldat := rfl
@[simp] theorem popInput_pipe : (s.popInput).pipe = s.pipe := rfl
@[simp] theorem popInput_shift : (s.popInput).shift = s.shift := rfl
@[simp] theorem popInput_armedOdd : (s.popInput).armedOdd = s.armedOdd := rfl
@[simp] theorem popInput_armedEven : (s.popInput).armedEven = s.armedEven := rfl
@[simp] theorem popInput_ctrl : (s.popInput).ctrl = s.ctrl := rfl
@[simp] theorem popInput_spr : (s.popInput).spr = s.spr := rfl
@[simp] theorem popInput_diw : (s.popInput).diw = s.diw := rfl
@[simp] theorem popInput_col : (s.popInput).col = s.col := rfl
@[simp] theorem popInput_qCtrl : (s.popInput).qCtrl = s.qCtrl := rfl
@[simp] theorem popInput_qSpr : (s.popInput).qSpr = s.qSpr := rfl
@[simp] theorem popInput_qDiw : (s.popInput).qDiw = s.qDiw := rfl
@[simp] theorem popInput_qCol : (s.popInput).qCol = s.qCol := rfl
@[simp] theorem popInput_buf : (s.popInput).buf = s.buf := rfl
@[simp] theorem popInput_lut : (s.popInput).lut = s.lut := rfl
@[simp] theorem popInput_fb : (s.popInput).fb = s.fb := rfl
@[simp] theorem popInput_writeIndex : (s.popInput).writeIndex = s.writeIndex := rfl
@[simp] theorem popInput_frameCounter : (s.popInput).frameCounter = s.frameCounter := rfl
@[simp] theorem popInput_frameActive : (s.popInput).frameActive = s.frameActive := rfl
@[simp] theorem popInput_lineActive : (s.popInput).lineActive = s.lineActive := rfl
@[simp] theorem popInput_curVpos : (s.popInput).curVpos = s.curVpos := rfl
@[simp] theorem popInput_curLof : (s.popInput).curLof = s.curLof := rfl
@[simp] theorem popInput_vFlop : (s.popInput).vFlop = s.vFlop := rfl
@[simp] theorem popInput_bplDmaLine : (s.popInput).bplDmaLine = s.bplDmaLine := rfl
@[simp] theorem popInput_clipBegin : (s.popInput).clipBegin = s.clipBegin := rfl
@[simp] theorem popInput_clipEnd : (s.popInput).clipEnd = s.clipEnd := rfl
@[simp] theorem popInput_fatal : (s.popInput).fatal = s.fatal := rfl
@[simp] theorem popInput_diagLog : (s.popInput).diagLog = s.diagLog := rfl
@[simp] theorem popInput_input : (s.popInput).input = s.input.tail := rfl
@[simp] theorem popInput_responses : (s.popInput).responses = s.responses := rfl
@[simp] theorem popInput_freeCount : (s.popInput).freeCount = s.freeCount := rfl

/-! ## pipelineLoad -/

@[simp] theorem pipelineLoad_par : (s.pipelineLoad).par = s.par := rfl
@[simp] theorem pipelineLoad_config : (s.pipelineLoad).config = s.config := rfl
@[simp] theorem pipelineLoad_reg : (s.pipelineLoad).reg = s.reg := rfl
@[simp] theorem pipelineLoad_clxdat : (s.pipelineLoad).clxdat = s.clxdat := rfl
@[simp] theorem pipelineLoad_bpldat : (s.pipelineLoad).bpldat = s.bpldat := rfl
@[simp] theorem pipelineLoad_pipe : (s.pipelineLoad).pipe = s.bpldat := rfl
@[simp] theorem pipelineLoad_shift : (s.pipelineLoad).shift = s.shift := rfl
@[simp] theorem pipelineLoad_armedOdd : (s.pipelineLoad).armedOdd = true := rfl
@[simp] theorem pipelineLoad_armedEven : (s.pipelineLoad).armedEven = true := rfl
@[simp] theorem pipelineLoad_ctrl : (s.pipelineLoad).ctrl = s.ctrl := rfl
@[simp] theorem pipelineLoad_spr : (s.pipelineLoad).spr = s.spr := rfl
@[simp] theorem pipelineLoad_diw : (s.pipelineLoad).diw = s.diw := rfl
@[simp] theorem pipelineLoad_col : (s.pipelineLoad).col = s.col := rfl
@[simp] theorem pipelineLoad_qCtrl : (s.pipelineLoad).qCtrl = s.qCtrl := rfl
@[simp] theorem pipelineLoad_qSpr : (s.pipelineLoad).qSpr = s.qSpr := rfl
@[simp] theorem pipelineLoad_qDiw : (s.pipelineLoad).qDiw = s.qDiw := rfl
@[simp] theorem pipelineLoad_qCol : (s.pipelineLoad).qCol = s.qCol := rfl
@[simp] theorem pipelineLoad_buf : (s.pipelineLoad).buf = s.buf := rfl
@[simp] theorem pipelineLoad_lut : (s.pipelineLoad).lut = s.lut := rfl
@[simp] theorem pipelineLoad_fb : (s.pipelineLoad).fb = s.fb := rfl
@[simp] theorem pipelineLoad_writeIndex : (s.pipelineLoad).writeIndex = s.writeIndex := rfl
@[simp] theorem pipelineLoad_frameCounter : (s.pipelineLoad).frameCounter = s.frameCounter := rfl
@[simp] theorem pipelineLoad_frameActive : (s.pipelineLoad).frameActive = s.frameActive := rfl
@[simp] theorem pipelineLoad_lineActive : (s.pipelineLoad).lineActive = s.lineActive := rfl
@[simp] theorem pipelineLoad_curVpos : (s.pipelineLoad).curVpos = s.curVpos := rfl
@[simp] theorem pipelineLoad_curLof : (s.pipelineLoad).curLof = s.curLof := rfl
@[simp] theorem pipelineLoad_vFlop : (s.pipelineLoad).vFlop = s.vFlop := rfl
@[simp] theorem pipelineLoad_bplDmaLine : (s.pipelineLoad).bplDmaLine = s.bplDmaLine := rfl
@[simp] theorem pipelineLoad_clipBegin : (s.pipelineLoad).clipBegin = s.clipBegin := rfl
@[simp] theorem pipelineLoad_clipEnd : (s.pipelineLoad).clipEnd = s.clipEnd := rfl
@[simp] theorem pipelineLoad_fatal : (s.pipelineLoad).fatal = s.fatal := rfl
@[simp] theorem pipelineLoad_diagLog : (s.pipelineLoad).diagLog = s.diagLog := rfl
@[simp] theorem pipelineLoad_input : (s.pipelineLoad).input = s.input := rfl
@[simp] theorem pipelineLoad_responses : (s.pipelineLoad).responses = s.responses := rfl
@[simp] theorem pipelineLoad_freeCount : (s.pipelineLoad).freeCount = s.freeCount := rfl

end Sys2Proof.Machine
end

