-- ==== Sys2Proof/Tests/Slice0.lean ====
section
/-! SUPPORT. The model's own tests. Each expected value comes from the spec: from the formats and
tables of spec/30_encoding.md, from the examples of the rules, or by hand from the rule named. The
theorems named `witness_…` show that the hypotheses of the statements can be met. -/

namespace Sys2Proof.Tests

open Sys2Proof Sys2Proof.Machine

/- One test at a time: each test waits for the kernel, and a waiting thread costs its stack. -/
set_option Elab.async false

/-! ## Well-formed operations (R93, R96) -/

/-- `W_other` at an odd offset is no operation. -/
theorem test_wellFormed_refuses_odd_write : (Instr.wOther 0x181 0 0).wellFormed = false := by decide

/-- `W_other` at an offset another row decodes is no `W_other`. -/
theorem test_wellFormed_refuses_decoded_write :
    ([0x00E, 0x08E, 0x090, 0x098, 0x100, 0x102, 0x104, 0x106, 0x110, 0x11A, 0x140, 0x17E, 0x180,
      0x1BE].any fun a => (Instr.wOther (BitVec.ofNat 9 a) 0 0).wellFormed) = false := by decide

/-- `R_other` at an odd offset is no operation. -/
theorem test_wellFormed_refuses_odd_read : (Instr.rOther 0x00F).wellFormed = false := by decide

/-- `R_other` at the offset of `CLXDAT` is no `R_other`. -/
theorem test_wellFormed_refuses_clxdat_read : (Instr.rOther 0x00E).wellFormed = false := by decide

/-- Offsets that no row decodes are the operations `W_other` and `R_other`. -/
theorem test_wellFormed_other : (Instr.wOther 0x11C 5 0).wellFormed = true ∧
    (Instr.wOther 0x1C0 5 0).wellFormed = true ∧ (Instr.rOther 0x100).wellFormed = true := by decide

/-! ## Decoding: the word of every row, written out from R90, R92 and R93 -/

/-- Writes of the bitplane control, collision and window registers (R93). -/
theorem test_decode_control_registers :
    decode { word := 0x10410298#32, px := 3 } = .instr (.wClxcon 0x1041 3) ∧
    decode { word := 0x2C81028E#32, px := 0 } = .instr (.wDiwstrt 0x2C81 0) ∧
    decode { word := 0x2CC10290#32, px := 0 } = .instr (.wDiwstop 0x2CC1 0) ∧
    decode { word := 0x22000300#32, px := 4 } = .instr (.wBplcon0 0x2200 4) ∧
    decode { word := 0x00100302#32, px := 0 } = .instr (.wBplcon1 0x0010 0) ∧
    decode { word := 0x00400304#32, px := 200 } = .instr (.wBplcon2 0x0040 200) ∧
    decode { word := 0x00200306#32, px := 0 } = .instr (.wBplcon3 0x0020 0) := by
  decide +kernel

/-- Writes of the bitplane data registers (R93). -/
theorem test_decode_bitplane_data :
    decode { word := 0xF0F00310#32, px := 100 } = .instr (.wBpl1dat 0xF0F0 100) ∧
    decode { word := 0xF0F10312#32, px := 100 } = .instr (.wBpl2dat 0xF0F1 100) ∧
    decode { word := 0xF0F20314#32, px := 100 } = .instr (.wBpl3dat 0xF0F2 100) ∧
    decode { word := 0xF0F30316#32, px := 100 } = .instr (.wBpl4dat 0xF0F3 100) ∧
    decode { word := 0xF0F40318#32, px := 100 } = .instr (.wBpl5dat 0xF0F4 100) ∧
    decode { word := 0xF0F5031A#32, px := 100 } = .instr (.wBpl6dat 0xF0F5 100) := by
  decide +kernel

/-- Sprite 0's registers stand at 0x140 to 0x146 (R93). -/
theorem test_decode_sprite0 :
    decode { word := 0x80010340#32, px := 9 } = .instr (.wSpr0pos 0x8001 9) ∧
    decode { word := 0x80010342#32, px := 9 } = .instr (.wSpr0ctl 0x8001 9) ∧
    decode { word := 0x80010344#32, px := 9 } = .instr (.wSpr0data 0x8001 9) ∧
    decode { word := 0x80010346#32, px := 9 } = .instr (.wSpr0datb 0x8001 9) := by
  decide +kernel

/-- Sprite 1's registers stand at 0x148 to 0x14E (R93). -/
theorem test_decode_sprite1 :
    decode { word := 0x80020348#32, px := 9 } = .instr (.wSpr1pos 0x8002 9) ∧
    decode { word := 0x8002034A#32, px := 9 } = .instr (.wSpr1ctl 0x8002 9) ∧
    decode { word := 0x8002034C#32, px := 9 } = .instr (.wSpr1data 0x8002 9) ∧
    decode { word := 0x8002034E#32, px := 9 } = .instr (.wSpr1datb 0x8002 9) := by
  decide +kernel

/-- Sprite 2's registers stand at 0x150 to 0x156 (R93). -/
theorem test_decode_sprite2 :
    decode { word := 0x80030350#32, px := 9 } = .instr (.wSpr2pos 0x8003 9) ∧
    decode { word := 0x80030352#32, px := 9 } = .instr (.wSpr2ctl 0x8003 9) ∧
    decode { word := 0x80030354#32, px := 9 } = .instr (.wSpr2data 0x8003 9) ∧
    decode { word := 0x80030356#32, px := 9 } = .instr (.wSpr2datb 0x8003 9) := by
  decide +kernel

/-- Sprite 3's registers stand at 0x158 to 0x15E (R93). -/
theorem test_decode_sprite3 :
    decode { word := 0x80040358#32, px := 9 } = .instr (.wSpr3pos 0x8004 9) ∧
    decode { word := 0x8004035A#32, px := 9 } = .instr (.wSpr3ctl 0x8004 9) ∧
    decode { word := 0x8004035C#32, px := 9 } = .instr (.wSpr3data 0x8004 9) ∧
    decode { word := 0x8004035E#32, px := 9 } = .instr (.wSpr3datb 0x8004 9) := by
  decide +kernel

/-- Sprite 4's registers stand at 0x160 to 0x166 (R93). -/
theorem test_decode_sprite4 :
    decode { word := 0x80050360#32, px := 9 } = .instr (.wSpr4pos 0x8005 9) ∧
    decode { word := 0x80050362#32, px := 9 } = .instr (.wSpr4ctl 0x8005 9) ∧
    decode { word := 0x80050364#32, px := 9 } = .instr (.wSpr4data 0x8005 9) ∧
    decode { word := 0x80050366#32, px := 9 } = .instr (.wSpr4datb 0x8005 9) := by
  decide +kernel

/-- Sprite 5's registers stand at 0x168 to 0x16E (R93). -/
theorem test_decode_sprite5 :
    decode { word := 0x80060368#32, px := 9 } = .instr (.wSpr5pos 0x8006 9) ∧
    decode { word := 0x8006036A#32, px := 9 } = .instr (.wSpr5ctl 0x8006 9) ∧
    decode { word := 0x8006036C#32, px := 9 } = .instr (.wSpr5data 0x8006 9) ∧
    decode { word := 0x8006036E#32, px := 9 } = .instr (.wSpr5datb 0x8006 9) := by
  decide +kernel

/-- Sprite 6's registers stand at 0x170 to 0x176 (R93). -/
theorem test_decode_sprite6 :
    decode { word := 0x80070370#32, px := 9 } = .instr (.wSpr6pos 0x8007 9) ∧
    decode { word := 0x80070372#32, px := 9 } = .instr (.wSpr6ctl 0x8007 9) ∧
    decode { word := 0x80070374#32, px := 9 } = .instr (.wSpr6data 0x8007 9) ∧
    decode { word := 0x80070376#32, px := 9 } = .instr (.wSpr6datb 0x8007 9) := by
  decide +kernel

/-- Sprite 7's registers stand at 0x178 to 0x17E (R93). -/
theorem test_decode_sprite7 :
    decode { word := 0x80080378#32, px := 9 } = .instr (.wSpr7pos 0x8008 9) ∧
    decode { word := 0x8008037A#32, px := 9 } = .instr (.wSpr7ctl 0x8008 9) ∧
    decode { word := 0x8008037C#32, px := 9 } = .instr (.wSpr7data 0x8008 9) ∧
    decode { word := 0x8008037E#32, px := 9 } = .instr (.wSpr7datb 0x8008 9) := by
  decide +kernel

/-- `COLOR00` to `COLOR07` stand at 0x180 to 0x18E (R93). -/
theorem test_decode_colors0 :
    decode { word := 0x0F000380#32, px := 200 } = .instr (.wColor00 0x0F00 200) ∧
    decode { word := 0x0F010382#32, px := 200 } = .instr (.wColor01 0x0F01 200) ∧
    decode { word := 0x0F020384#32, px := 200 } = .instr (.wColor02 0x0F02 200) ∧
    decode { word := 0x0F030386#32, px := 200 } = .instr (.wColor03 0x0F03 200) ∧
    decode { word := 0x0F040388#32, px := 200 } = .instr (.wColor04 0x0F04 200) ∧
    decode { word := 0x0F05038A#32, px := 200 } = .instr (.wColor05 0x0F05 200) ∧
    decode { word := 0x0F06038C#32, px := 200 } = .instr (.wColor06 0x0F06 200) ∧
    decode { word := 0x0F07038E#32, px := 200 } = .instr (.wColor07 0x0F07 200) := by
  decide +kernel

/-- `COLOR08` to `COLOR15` stand at 0x190 to 0x19E (R93). -/
theorem test_decode_colors1 :
    decode { word := 0x0F080390#32, px := 200 } = .instr (.wColor08 0x0F08 200) ∧
    decode { word := 0x0F090392#32, px := 200 } = .instr (.wColor09 0x0F09 200) ∧
    decode { word := 0x0F0A0394#32, px := 200 } = .instr (.wColor10 0x0F0A 200) ∧
    decode { word := 0x0F0B0396#32, px := 200 } = .instr (.wColor11 0x0F0B 200) ∧
    decode { word := 0x0F0C0398#32, px := 200 } = .instr (.wColor12 0x0F0C 200) ∧
    decode { word := 0x0F0D039A#32, px := 200 } = .instr (.wColor13 0x0F0D 200) ∧
    decode { word := 0x0F0E039C#32, px := 200 } = .instr (.wColor14 0x0F0E 200) ∧
    decode { word := 0x0F0F039E#32, px := 200 } = .instr (.wColor15 0x0F0F 200) := by
  decide +kernel

/-- `COLOR16` to `COLOR23` stand at 0x1A0 to 0x1AE (R93). -/
theorem test_decode_colors2 :
    decode { word := 0x0F1003A0#32, px := 200 } = .instr (.wColor16 0x0F10 200) ∧
    decode { word := 0x0F1103A2#32, px := 200 } = .instr (.wColor17 0x0F11 200) ∧
    decode { word := 0x0F1203A4#32, px := 200 } = .instr (.wColor18 0x0F12 200) ∧
    decode { word := 0x0F1303A6#32, px := 200 } = .instr (.wColor19 0x0F13 200) ∧
    decode { word := 0x0F1403A8#32, px := 200 } = .instr (.wColor20 0x0F14 200) ∧
    decode { word := 0x0F1503AA#32, px := 200 } = .instr (.wColor21 0x0F15 200) ∧
    decode { word := 0x0F1603AC#32, px := 200 } = .instr (.wColor22 0x0F16 200) ∧
    decode { word := 0x0F1703AE#32, px := 200 } = .instr (.wColor23 0x0F17 200) := by
  decide +kernel

/-- `COLOR24` to `COLOR31` stand at 0x1B0 to 0x1BE (R93). -/
theorem test_decode_colors3 :
    decode { word := 0x0F1803B0#32, px := 200 } = .instr (.wColor24 0x0F18 200) ∧
    decode { word := 0x0F1903B2#32, px := 200 } = .instr (.wColor25 0x0F19 200) ∧
    decode { word := 0x0F1A03B4#32, px := 200 } = .instr (.wColor26 0x0F1A 200) ∧
    decode { word := 0x0F1B03B6#32, px := 200 } = .instr (.wColor27 0x0F1B 200) ∧
    decode { word := 0x0F1C03B8#32, px := 200 } = .instr (.wColor28 0x0F1C 200) ∧
    decode { word := 0x0F1D03BA#32, px := 200 } = .instr (.wColor29 0x0F1D 200) ∧
    decode { word := 0x0F1E03BC#32, px := 200 } = .instr (.wColor30 0x0F1E 200) ∧
    decode { word := 0x0F1F03BE#32, px := 200 } = .instr (.wColor31 0x0F1F 200) := by
  decide +kernel

/-- `CLXDAT`, and offsets the block does not decode (R93, R96, R97, R101). -/
theorem test_decode_other_accesses :
    decode { word := 0x7FFF020E#32, px := 1 } = .instr (.wClxdat 0x7FFF 1) ∧
    decode { word := 0x0000000E#32 } = .instr (.rClxdat) ∧
    decode { word := 0x123403C0#32, px := 1 } = .instr (.wOther 0x1C0 0x1234 1) ∧
    decode { word := 0x00000180#32 } = .instr (.rOther 0x180) ∧
    decode { word := 0xFFFF0100#32 } = .instr (.rOther 0x100) := by
  decide +kernel

/-- The control events (R92, R101). -/
theorem test_decode_events :
    decode { word := 0x00000400#32 } = .instr (.reset) ∧
    decode { word := 0x00000401#32 } = .instr (.bof false) ∧
    decode { word := 0x00000411#32 } = .instr (.bof true) ∧
    decode { word := 0x002C0412#32 } = .instr (.bol 44 true false) ∧
    decode { word := 0x002C0422#32 } = .instr (.bol 44 false true) ∧
    decode { word := 0x002C0403#32 } = .instr (.eol 44) ∧
    decode { word := 0x00000404#32 } = .instr (.eof) ∧
    decode { word := 0x00010405#32 } = .instr (.stable 1) ∧
    decode { word := 0x00030416#32, px := 100 } = .instr (.spren 3 true 100) ∧
    decode { word := 0x00070406#32, px := -2 } = .instr (.spren 7 false (-2)) ∧
    decode { word := 0x00000407#32 } = .instr (.config {}) := by
  decide +kernel

/-- The words that R95 refuses, one for each reason. -/
theorem test_decode_refuses :
    decode { word := 0x00000800#32 } = .refused .reservedBits ∧
    decode { word := 0x00008201#32 } = .refused .reservedBits ∧
    decode { word := 0x00000381#32 } = .refused .oddOffset ∧
    decode { word := 0x00000443#32 } = .refused .reservedEventBits ∧
    decode { word := 0x00000408#32 } = .refused .reservedEvent ∧
    decode { word := 0x0000040F#32 } = .refused .reservedEvent ∧
    decode { word := 0x00010400#32 } = .refused .unusedField ∧
    decode { word := 0x00000421#32 } = .refused .unusedField ∧
    decode { word := 0x00000413#32 } = .refused .unusedField ∧
    decode { word := 0x00000424#32 } = .refused .unusedField ∧
    decode { word := 0x00080416#32 } = .refused .unusedField ∧
    decode { word := 0x00010407#32 } = .refused .unusedField := by
  decide +kernel

/-! ## A small machine: 32 positions, 2 rows, 2 frame buffers, 2 records a queue -/

/-- The reset state of the small machine. -/
def small : State := { State.reset with
  par := { Params.reference with hpixels := 32, vpixels := 2, changeCap := 2 }
  buf := LineBufs.cleared 32 }

/-- Inside line 1 of a frame. -/
def inLine : State := { small with frameActive := true, lineActive := true, curVpos := 1 }

/-- Inside a frame, between lines. -/
def inFrame : State := { small with frameActive := true }

/-- A record in a queue. -/
def record (px : Int) : Change := { triggerPixel := px, registerId := .bplcon0, value := 0 }

/-- A full queue of the small machine. -/
def fullQueue : ChangeQueue := [record 3, record 5]

/-- What a test looks at in the next state; none where there is none. -/
def after {α : Type} (r : Result) (f : State → α) : Option α :=
  match r with
  | .next t => some (f t)
  | _ => none

/-! ## One operation each -/

/-- R112: the three queues and the immediate copy; `EffBPU(0x2200) = 2`, so no diagnostic. -/
theorem test_bplcon0 : after (exec (.wBplcon0 0x2200 4) inLine) (fun t =>
    (t.qCtrl, t.qDiw == t.qCtrl, t.qCol == t.qCtrl, t.reg.bplcon0, t.diagLog)) =
    some ([{ triggerPixel := 4, registerId := .bplcon0, value := 0x2200 }], true, true, 0x2200, []) := by
  decide +kernel

/-- R110, R120: 7 planes in LORES are unusual, and clamp to 6. -/
theorem test_bplcon0_unusual : after (exec (.wBplcon0 0x7000 0) inLine) (·.diagLog) =
    some [{ kind := .unusualBpu, value := 0x7000 }] ∧ effBpu .ecs 0x7000 = 6 ∧
    effBpu .ecs 0xD000 = 0 ∧ effBpu .ecs 0x3040 = 0 ∧ effBpu .ocs 0x3040 = 3 := by decide +kernel

/-- R113, R165, R114: the immediate registers. -/
theorem test_immediate_writes :
    after (exec (.wBplcon1 0x0010 0) inLine) (·.reg.bplcon1) = some 0x0010 ∧
    after (exec (.wClxcon 0x1000 0) inLine) (·.reg.clxcon) = some 0x1000 ∧
    after (exec (.wBpl2dat 0xFF00 0) inLine) (fun t => (t.bpldat[1], t.buf.rawBits.sum)) =
      some (0xFF00, 0) ∧
    after (exec (.wBpl6dat 0xFF00 0) inLine) (fun t => t.bpldat[5]) = some 0xFF00 := by decide +kernel

/-- R115, the example: LORES with 2 planes, data 0xF0F0 and 0xFF00, here at position 0. -/
theorem test_bpl1dat : after (exec (.wBpl1dat 0xF0F0 0)
    { inLine with reg := { inLine.reg with bplcon0 := 0x2200 }, bpldat := inLine.bpldat.set 1 0xFF00 })
    (·.buf.rawBits) =
    some (List.replicate 8 3 ++ List.replicate 8 2 ++ List.replicate 8 1 ++ List.replicate 8 0) := by
  decide +kernel

/-- R116 to R118: SHRES packs two sub-pixels a position, and the end of the line cuts the draw off. -/
theorem test_bpl1dat_shres : after (exec (.wBpl1dat 0x6000 30)
    { inLine with reg := { inLine.reg with bplcon0 := 0x2040 }, bpldat := inLine.bpldat.set 1 0xC000 })
    (·.buf.rawBits) = some (List.replicate 30 0 ++ [0x0E, 0x01]) := by
  decide +kernel

/-- R133 to R137: the examples of the translator's rules. -/
theorem test_translate_examples :
    spfPixel { bplcon0 := 0, bplcon2 := 0 } 3 = (3, 0x10000003) ∧
    spfPixel { bplcon0 := 0, bplcon2 := 0x0028 } 0b010011 = (16, 0x00000001) ∧
    dpfPixel { bplcon0 := 0x0400, bplcon2 := 0 } 3 = (1, 0x10000007) ∧
    dpfPixel { bplcon0 := 0x0400, bplcon2 := 0x0040 } 3 = (9, 0x10000017) ∧
    dpfPixel { bplcon0 := 0x0400, bplcon2 := 0x0005 } 3 = (9, 0x10000016) ∧
    dpfPixel { bplcon0 := 0x0400, bplcon2 := 0 } 0 = (0, 0x00000004) ∧
    shresPixel { bplcon0 := 0x0040, bplcon2 := 0 } 0b1101 = (13, 0x10000023) := by decide +kernel

/-- R139, R140: a priority code of 5 is logged. -/
theorem test_bplcon2 : after (exec (.wBplcon2 0x0005 200) inLine) (fun t => (t.qCtrl, t.diagLog)) =
    some ([{ triggerPixel := 200, registerId := .bplcon2, value := 5 }],
      [{ kind := .priorityOutOfRange, value := 5 }]) := by decide +kernel

/-- R151 to R154: the four sprite registers go into the queue of the sprite's pair. -/
theorem test_sprite_writes :
    after (exec (.wSpr0pos 0x0050 0) inLine) (·.qSpr[0]) =
      some [{ triggerPixel := 0, registerId := .sprPos 0, value := 0x0050 }] ∧
    after (exec (.wSpr1ctl 0x0080 0) inLine) (·.qSpr[0]) =
      some [{ triggerPixel := 0, registerId := .sprCtl 1, value := 0x0080 }] ∧
    after (exec (.wSpr5data 0x8000 1) inLine) (·.qSpr[2]) =
      some [{ triggerPixel := 1, registerId := .sprData 5, value := 0x8000 }] ∧
    after (exec (.wSpr7datb 0x8000 2) inLine) (·.qSpr[3]) =
      some [{ triggerPixel := 2, registerId := .sprDatb 7, value := 0x8000 }] := by decide +kernel

/-- R155: with `SPR_FETCH_START = 0` a disable waits for the next line; an enable does not. -/
theorem test_spren :
    after (exec (.spren 3 false 100) inLine) (·.qSpr[1]) =
      some [{ triggerPixel := 100, registerId := .spren 3 .disableNextLine, value := 0 }] ∧
    after (exec (.spren 3 true 100) inLine) (·.qSpr[1]) =
      some [{ triggerPixel := 100, registerId := .spren 3 .enable, value := 1 }] ∧
    sprenMode 10 false 9 = .disableNow ∧ sprenMode 10 false 10 = .disableNextLine := by decide +kernel

/-- R150, R161: the examples of the start position, of an attached pair (color 25) and of selector 3. -/
theorem test_sprite_examples :
    spriteStart { Sprite.reset with pos := 0x0050 } = 320 ∧
    (pairPixel 0 true 1 2 (0, 0)).1 = 25 ∧
    selector { Sprite.reset with shiftA := 0x8000, shiftB := 0x8000 } = 3 ∧
    (pairPixel 3 false 0 3 (0, 0)).1 = 31 := by decide +kernel

/-- R158, R159: an armed unit at `hStart = 5` loads at position 10 and not beside it, and the first
pixel of plane A (color 17) stands at positions 10 and 11 of the line. -/
theorem test_sprite_load :
    let u : Sprite := { Sprite.reset with
      pos := 0x0002, ctl := 0x0001, dataA := 0x8000, dataB := 0x0001, half := true, armed := true }
    loadIfStart 10 u = { u with shiftA := 0x8000, shiftB := 0x0001, half := false } ∧
    loadIfStart 9 u = u ∧ loadIfStart 11 u = u ∧ loadIfStart 10 { u with armed := false } =
      { u with armed := false } ∧
    (State.spriteLine { small with spr := small.spr.set 0 u, clipEnd := 32 } 0).buf.multiplexedIndex =
      List.replicate 10 0 ++ [17, 17] ++ List.replicate 20 0 := by decide +kernel

/-- R166, the example: two reads in a row. -/
theorem test_clxdat : after (exec .rClxdat { small with clxdat := 0x0023 })
    (fun t => (t.responses, t.clxdat, after (exec .rClxdat t) (·.responses))) =
    some ([.value 0x8023], 0, some [.value 0x8023, .value 0x8000]) := by decide +kernel

/-- R168 to R171: sprites 0 and 2 solid at one position where plane 1 matches; no plane 2 to match. -/
theorem test_collide : (State.collide { small with
    reg := { small.reg with clxcon := 0x00C1 }
    buf := { small.buf with rawBits := setPixel small.buf.rawBits 4 1
                            depthTag := setPixel small.buf.depthTag 4 0x00000504 } }).clxdat =
    0b000001001100111#15 := by decide +kernel

/-- R185: a color write; the upper four bits are discarded when it is applied (R32). -/
theorem test_color : after (exec (.wColor01 0xFF00 200) inLine) (·.qCol) =
      some [{ triggerPixel := 200, registerId := .color 1, value := 0xFF00 }] ∧
    (applyColRegs small.col { triggerPixel := 0, registerId := .color 31, value := 0xFABC }).color[31] =
      0xABC := by decide +kernel

/-- R191 to R193: the window registers; on OCS `BPLCON3` is ignored, outside a line too. -/
theorem test_window_writes :
    after (exec (.wDiwstrt 0x2C81 0) inLine) (·.qDiw) =
      some [{ triggerPixel := 0, registerId := .diwstrt, value := 0x2C81 }] ∧
    after (exec (.wDiwstop 0x2CC1 0) inLine) (·.qDiw) =
      some [{ triggerPixel := 0, registerId := .diwstop, value := 0x2CC1 }] ∧
    after (exec (.wBplcon3 0x0020 0) inLine) (·.qDiw) =
      some [{ triggerPixel := 0, registerId := .bplcon3, value := 0x0020 }] ∧
    after (exec (.wBplcon3 0x0020 0) { small with par := { small.par with chip := .ocs } })
      (fun t => (t.qDiw, t.fatal)) = some ([], none) ∧
    windowStart 0x2C81 = 258 ∧ windowStop 0x2CC1 = 898 := by decide +kernel

/-- R194, R196, R71: after the line a register holds the value of its last record, also of one past the
line; the others stay. -/
theorem test_line_replay :
    let q : ChangeQueue :=
      [{ triggerPixel := 3, registerId := .color 1, value := 0x0F00 },
       { triggerPixel := 5, registerId := .diwstop, value := 0x2CC1 },
       { triggerPixel := 99, registerId := .color 1, value := 0xF123 }]
    let colors := (State.outputLine { inLine with qCol := q }).col.color
    let window := (State.borderFill { inLine with qDiw := q }).diw
    (colors[1], colors[2]) = (0x123, 0) ∧ (window.diwstop, window.diwstrt) = (0x2CC1, 0) := by decide +kernel

/-- R198, the example: COLOR05 = 0x123 and four HAM codes. -/
theorem test_ham_example :
    let col : Col := { color := small.col.color.set 5 0x123, bplcon0 := 0 }
    hamHold col 0 0b000101 = 0x123 ∧ hamHold col 0x123 0b101111 = 0xF23 ∧
    hamHold col 0xF23 0b111000 = 0xF83 ∧ hamHold col 0xF83 0b010001 = 0xF81 := by decide +kernel

/-- R186, R190, R201: half-bright white, the example of the table, and a blend at half opacity. -/
theorem test_color_formulas : halfBright 0xFFF = 0x777 ∧ lutNeutral 0xABC = 0xFFCCBBAA ∧
    blend 0xFFFF0000 0xFF222222 128 = 0xFF901010 := by decide +kernel

/-- R226, R229: the tag of a long frame, and the first rotation. -/
theorem test_frames :
    after (exec (.bof true) small) (fun t => (t.frameActive, t.curLof)) = some (true, true) ∧
    after (exec .eof { inFrame with curLof := true, reg := { inFrame.reg with bplcon0 := 4 } })
      (fun t => (t.writeIndex, t.frameCounter, t.frameActive,
        (bufferAt t.fb 0).nr, (bufferAt t.fb 0).lof, (bufferAt t.fb 0).lace)) =
      some (1, 1, false, 0, true, true) := by decide +kernel

/-- R227, R174: the begin of a line takes a pending disable and clears the shift registers. -/
theorem test_bol : after (exec (.bol 44 true false) { inFrame with
      spr := inFrame.spr.set 3 { Sprite.reset with pendingDisable := true, shiftA := 5, armed := true } })
    (fun t => (t.lineActive, t.curVpos, t.vFlop, t.bplDmaLine, t.clipEnd, t.spr[3])) =
    some (true, 44, true, false, 912, { Sprite.reset with enabled := false, armed := true }) := by
  decide +kernel

/-- R228, the example: plane 1 set at positions 0 and 1 shows color 1 there, where the border is open. -/
theorem test_eol : after (exec (.eol 1) { inLine with
      vFlop := true
      diw := { inLine.diw with hFlop := true }
      ctrl := { inLine.ctrl with bplcon0 := 0x1200 }
      col := { color := inLine.col.color.set 1 0xF00, bplcon0 := 0x1200 }
      buf := { inLine.buf with rawBits := [1, 1] ++ List.replicate 30 0 } })
    (fun t => (t.cellAt 0 1 0, t.cellAt 0 1 1, t.cellAt 0 1 2, t.cellAt 0 0 0, t.lineActive)) =
    some (⟨0xFF0000FF, 0xFF0000FF⟩, ⟨0xFF0000FF, 0xFF0000FF⟩, ⟨0xFF000000, 0xFF000000⟩, ⟨0, 0⟩,
      false) := by decide +kernel

/-- R208, R230: after the first frame `STABLE 0` returns buffer 0, and `STABLE 1` is refused. -/
theorem test_stable :
    after (exec (.stable 0) { small with frameCounter := 1, writeIndex := 1 }) (·.responses) =
      some [.frame FrameBuffer.reset] ∧
    after (exec (.stable 1) { small with frameCounter := 1, writeIndex := 1 }) (·.responses) =
      some [.refused .noStableBuffer] ∧
    after (exec (.stable 0) small) (·.responses) = some [.refused .noStableBuffer] := by decide +kernel

/-- R231: the example, and a record that changes `MONITOR` and keeps the rest. -/
theorem test_config :
    after (exec (.config { hiddenSprites := some 1 }) small) (fun t =>
      (t.config.hiddenSprites, t.config.hideOpacity, t.config.monitor)) =
      some (1, 128, .neutral) := by decide +kernel

/-- R225, the example: RESET, then `R CLXDAT` returns 0x8000; the configuration is kept. -/
theorem test_reset : after (exec .reset { inLine with
      clxdat := 5, config := { inLine.config with hideOpacity := 3 }, qCtrl := fullQueue })
    (fun t => (t.config.hideOpacity, t.lineActive, t.qCtrl, after (exec .rClxdat t) (·.responses))) =
    some (3, false, [], some [.value 0x8000]) := by decide +kernel

/-- R96, R97: ignored writes raise nothing outside a line; a read of an undecoded offset answers. -/
theorem test_undecoded :
    after (exec (.wOther 0x1C0 7 (-1)) small) (·.fatal) = some none ∧
    after (exec (.wClxdat 7 (-1)) { small with clxdat := 9 }) (·.clxdat) = some 9 ∧
    after (exec (.rOther 0x100) small) (fun t => (t.responses.length, t.clxdat)) = some (1, 0) := by
  decide +kernel

/-! ## The fatal errors (R246, R247) -/

/-- Each kind is raised by its cause, and the first check that fails decides. -/
theorem test_fatal_kinds :
    after (exec (.bol 0 true true) { inFrame with qCol := [record 3] }) (·.fatal) =
      some (some .queueNotEmpty) ∧
    after (exec (.bol 0 true true) { small with qCol := [record 3] }) (·.fatal) =
      some (some .sequenceError) ∧
    after (exec (.wBplcon0 0 0) { inLine with qCol := fullQueue }) (fun t => (t.fatal, t.qCtrl)) =
      some (some .queueOverflow, []) ∧
    after (exec (.wBplcon0 0 (-1)) { inLine with qCol := fullQueue }) (·.fatal) =
      some (some .negativeTriggerPixel) ∧
    after (exec (.wBplcon0 0 (-1)) small) (·.fatal) = some (some .pokeOutsideLine) ∧
    after (exec (.eol 2) inLine) (·.fatal) = some (some .sequenceError) ∧
    after (exec (.bof false) inFrame) (·.fatal) = some (some .sequenceError) ∧
    after (exec .eof inLine) (·.fatal) = some (some .sequenceError) ∧
    after (exec (.config {}) inLine) (·.fatal) = some (some .configMidLine) := by decide +kernel

/-! ## The step (R235) -/

/-- A word from the input is performed, a refused word is answered, and no word is a pause. -/
theorem test_step :
    after (step (State.reset.withFetchWord 32 0x00000411)) (fun t => (t.curLof, t.input)) =
      some (true, []) ∧
    after (step (State.reset.withFetchWord 32 0x00000408)) (fun t => (t.responses, t.input)) =
      some ([.refused .reservedEvent], []) ∧
    after (step State.reset) (·.frameActive) = some false ∧
    after (step { State.reset with fatal := some .sequenceError }) (·.frameActive) = none := by
  decide +kernel

/-! ## States and operands that meet the hypotheses of the statements -/

/-- The small machine meets every invariant. -/
theorem small_wf : small.wf where
  par := by unfold paramsWf; decide
  queues := by
    intro q hq
    have hq : q = [] := by revert q; decide
    subst hq
    exact ⟨List.Pairwise.nil, Nat.zero_le _, fun _ h => absurd h (List.not_mem_nil)⟩
  boundary := fun _ => by decide
  sequence := fun h => absurd h (by decide)
  pipeline := ⟨rfl, rfl, rfl⟩
  buffers := by unfold State.buffersWf; decide
  depth := by
    intro t ht
    have : t = 0 := List.eq_of_mem_replicate ht
    subst this
    exact .inl rfl
  lut := rfl
  store := by unfold State.storeWf; decide

/-- Inside a line of the small machine, with a legal color write pending. -/
def pending : State := { inLine with input := [{ word := 0x0F000382#32, px := 31 }] }

/-- `pending` meets every invariant, and a step answers a next state. -/
theorem pending_wf : pending.wf where
  par := small_wf.par
  queues := small_wf.queues
  boundary := fun h => absurd h (by decide)
  sequence := fun _ => rfl
  pipeline := small_wf.pipeline
  buffers := small_wf.buffers
  depth := small_wf.depth
  lut := small_wf.lut
  store := small_wf.store

theorem witness_EncodedOperationsDecodeToThemselves :
    (Instr.wOther 0x1FE 0xFFFF (-1)).wellFormed = true := by decide

theorem witness_DecodedWordsEncodeBack :
    decode { word := 0xFFFF000E#32 } = .instr .rClxdat ∧
    (decode { word := 0xFFFF0200#32 } = .instr (.wOther 0 0xFFFF 0) ∧ (0xFFFF0200#32).getLsbD 9 = true) ∧
    (decode { word := 0x00000404#32 } = .instr .eof ∧ (0x00000404#32).getLsbD 10 = true) := by
  decide +kernel

theorem witness_StepRunsTheDecodedOperation : pending.fatal = none ∧
    pending.input = { word := 0x0F000382#32, px := 31 } :: [] ∧
    decode { word := 0x0F000382#32, px := 31 } = .instr (.wColor01 0x0F00 31) := by decide +kernel

theorem witness_RefusedWordsOnlyTellTheHost :
    let s : State := { small with input := [{ word := 0x00000381#32 }] }
    s.fatal = none ∧ s.input = { word := 0x00000381#32 } :: [] ∧
    decode { word := 0x00000381#32 } = .refused .oddOffset := by decide +kernel

theorem witness_FatalStateTakesNoStepAndPausesChangeNothing :
    (small.raiseFatal .sequenceError).fatal = some .sequenceError ∧
    small.fatal = none ∧ small.input = [] := by decide

theorem witness_FatalErrorsHaveTheirCauses :
    inLine.fatal = none ∧ (∃ t, exec (.eol 2) inLine = .next t ∧ t.fatal = some .sequenceError) ∧
    inLine.raises (.eol 2) .sequenceError :=
  ⟨rfl, ⟨_, rfl, rfl⟩, .inr (.inr (.inl ⟨2, rfl, .inr (by decide)⟩))⟩

theorem witness_OnlyConfigChangesTheConfiguration :
    ∃ t, exec (.bof true) small = .next t ∧ ∀ u, Instr.bof true ≠ .config u :=
  ⟨_, rfl, fun _ h => nomatch h⟩

theorem witness_EnqueueInsertsAfterEqualPixels : sortedQueue [record 3, record 3, record 5] := by
  unfold sortedQueue; decide

theorem witness_ReplayAppliesEachChangeAtItsPixel :
    sortedQueue [record 0, record 31, record 32] ∧
    ∀ c ∈ [record 0, record 31, record 32], 0 ≤ c.triggerPixel := by
  unfold sortedQueue; decide

theorem witness_StepKeepsQueuesSorted : pending.queuesWf ∧ ∃ t, step pending = .next t :=
  ⟨pending_wf.queues, _, rfl⟩

theorem witness_StepKeepsLineBoundaries :
    (pending.boundaryWf ∧ pending.sequenceWf) ∧ ∃ t, step pending = .next t :=
  ⟨⟨pending_wf.boundary, pending_wf.sequence⟩, _, rfl⟩

theorem witness_QueueNotEmptyNeverFires :
    let s : State := { inFrame with input := [{ word := 0x00000402#32 }] }
    s.boundaryWf ∧ ∃ t, step s = .next t := ⟨fun _ => rfl, _, rfl⟩

/-- Both ways to meet the premise: the policy `zero`, and the policy `arbitrary` with no RESET next. -/
theorem witness_StepKeepsReplayedCopiesEqual :
    let s : State := { pending with par := { pending.par with resetPolicy := .arbitrary } }
    (pending.par.resetPolicy = .zero ∧ pending.queuesWf ∧ pending.copiesWf ∧
      ∃ t, step pending = .next t) ∧
    (s.par.resetPolicy = .arbitrary ∧
      (∀ (op : HostOp) (rest : List HostOp), s.input = op :: rest → decode op ≠ .instr .reset) ∧
      s.queuesWf ∧ s.copiesWf ∧ ∃ t, step s = .next t) := by
  refine ⟨⟨rfl, pending_wf.queues, ⟨rfl, rfl, rfl, rfl⟩, _, rfl⟩,
    rfl, fun op rest h => ?_, pending_wf.queues, ⟨rfl, rfl, rfl, rfl⟩, _, rfl⟩
  cases h
  decide +kernel

theorem witness_StepKeepsDepthTagsLegal : pending.depthWf ∧ ∃ t, step pending = .next t :=
  ⟨pending_wf.depth, _, rfl⟩

theorem witness_StepKeepsFrameStoreCanonical :
    paramsWf pending.par ∧ pending.storeWf ∧ ∃ t, step pending = .next t :=
  ⟨pending_wf.par, pending_wf.store, _, rfl⟩

theorem witness_StepKeepsPipelineBuffersAndTable :
    pending.pipelineWf ∧ pending.buffersWf ∧ pending.lutWf ∧ ∃ t, step pending = .next t :=
  ⟨pending_wf.pipeline, pending_wf.buffers, pending_wf.lut, _, rfl⟩

/-- The hypotheses of `immediateWrite` and `queuedWrite`, clause by clause: outside a line, at a
negative pixel, with a full queue, and with room. -/
theorem witness_write_checks :
    small.lineActive = false ∧ inLine.lineActive = true ∧ (-1 : Int) < 0 ∧ (0 : Int) ≤ 0 ∧
    (let s : State := { inLine with qCtrl := fullQueue, qDiw := fullQueue, qCol := fullQueue,
                                    qSpr := Vector.replicate 4 fullQueue }
     (∃ q ∈ [s.qCtrl], q.length = s.par.changeCap) ∧ (∃ q ∈ [s.qDiw], q.length = s.par.changeCap) ∧
     (∃ q ∈ [s.qCol], q.length = s.par.changeCap) ∧
     (∃ q ∈ [s.qSpr[3]], q.length = s.par.changeCap)) ∧
    (let s : State := { inLine with qCtrl := [record 3], qDiw := [record 3], qCol := [record 3],
                                    qSpr := Vector.replicate 4 [record 3] }
     ∀ q ∈ [s.qCtrl, s.qDiw, s.qCol, s.qSpr[0], s.qSpr[3]], q.length ≠ s.par.changeCap) := by
  decide +kernel

theorem witness_WriteBpl1datDrawsSixteenPixels :
    inLine.lineActive = true ∧ (0 : Int) ≤ 31 ∧ inLine.buf.rawBits.length = inLine.par.hpixels ∧
    31 < inLine.par.hpixels := by decide

theorem witness_SinglePlayfieldPixelsFollowTheQuirk :
    (∀ chip : Chip, resolution chip 0x8000 ≠ .shres) ∧ (0x8000#16).getLsbD 10 = false ∧
    ((0x0020#16).extractLsb' 3 3).toNat ≤ 4 ∧ 5 ≤ ((0x0028#16).extractLsb' 3 3).toNat := by
  refine ⟨fun chip => ?_, ?_⟩
  · cases chip <;> decide
  · decide

theorem witness_DualPlayfieldPixelsShowTheFrontOne :
    resolution .ecs 0x0400 ≠ .shres ∧ (0x0400#16).getLsbD 10 = true ∧
    ((0x0024#16).extractLsb' 0 3).toNat ≤ 4 ∧ ((0x0024#16).extractLsb' 3 3).toNat ≤ 4 ∧
    ¬ ((0x002D#16).extractLsb' 0 3).toNat ≤ 4 ∧ (3#6).getLsbD 0 = true ∧ (3#6).getLsbD 1 = true := by
  decide

theorem witness_ShresPositionsPackTwoPixels : resolution .ecs 0x0040 = .shres := by decide

theorem witness_TranslationKeepsItsOutputContract : small.buffersWf ∧ 31 < small.par.hpixels :=
  ⟨small_wf.buffers, by decide⟩

/-- Records at the first position, at the last one and past the line. -/
def midLine (id : RegId) (a b c : Word) : ChangeQueue :=
  [{ triggerPixel := 0, registerId := id, value := a }, { triggerPixel := 31, registerId := id, value := b },
   { triggerPixel := 32, registerId := id, value := c }]

/-- Such a queue meets the premise of the statements about changes within a line. -/
theorem midLine_replayable (id : RegId) (a b c : Word) : replayable (midLine id a b c) := by
  unfold replayable sortedQueue
  simp [midLine]

/-- R71, R132: the mode changes exactly at the trigger pixel, and a later record does not act. -/
theorem test_mid_line_mode :
    let t := State.translate { small with
      qCtrl := midLine .bplcon0 0x0000 0x0400 0x0040
      buf := { small.buf with rawBits := List.replicate 32 2#6 } }
    (pixelAt t.buf.colorIndex 0, pixelAt t.buf.colorIndex 30, pixelAt t.buf.colorIndex 31) = (2, 2, 9) ∧
    (pixelAt t.buf.depthTag 30, pixelAt t.buf.depthTag 31) = (0x10000002, 0x10000016) ∧
    t.ctrl.bplcon0 = 0x0040 := by decide +kernel

theorem witness_TranslationWithChanges :
    let s : State := { small with qCtrl := midLine .bplcon2 1 2 3 }
    s.buffersWf ∧ replayable s.qCtrl ∧ s.qCtrl ≠ [] ∧ 31 < s.par.hpixels ∧
    small.buffersWf ∧ small.qCtrl = [] :=
  ⟨small_wf.buffers, midLine_replayable .., by decide, by decide, small_wf.buffers, rfl⟩

theorem witness_UnchangedLinesTranslateDirectly :
    let s : State := { small with ctrl := { bplcon0 := 0x6000, bplcon2 := 0x0028 },
                                  buf := { small.buf with rawBits := List.replicate 32 0x2F#6 } }
    s.buffersWf ∧ s.qCtrl = [] ∧ resolution s.par.chip s.ctrl.bplcon0 ≠ .shres ∧
    s.ctrl.bplcon0.getLsbD 10 = false ∧
    ∀ p < s.par.hpixels, ¬ (5 ≤ (s.ctrl.bplcon2.extractLsb' 3 3).toNat ∧
      s.ctrl.bplcon0.getLsbD 11 = false ∧ (pixelAt s.buf.rawBits p).getLsbD 4 = true) := by
  unfold State.buffersWf
  decide +kernel

theorem witness_TranslationIsStateless :
    let t : State := { small with clxdat := 5, diagLog := [{ kind := .unusualBpu, value := 0 }] }
    small.buffersWf ∧ t.buffersWf ∧ small.par = t.par ∧ small.buf.rawBits = t.buf.rawBits ∧
    small.ctrl = t.ctrl ∧ small.qCtrl = t.qCtrl :=
  ⟨small_wf.buffers, small_wf.buffers, rfl, rfl, rfl, rfl⟩

theorem witness_SpritePassWithChanges :
    let s : State := { small with qSpr := small.qSpr.set 2 (midLine (.sprPos 4) 1 2 3) }
    replayable s.qSpr[2] ∧ s.qSpr[2] ≠ [] := ⟨midLine_replayable .., by decide⟩

/-- The load, the shifting, one position of a pair's pass (in and out of the window), and the line. -/
theorem witness_SpritesShowSixteenDoublePixels :
    let u : Sprite := { Sprite.reset with pos := 0x0002, ctl := 0x0001, dataA := 0x8001, armed := true }
    let start : Nat := 2 * (2 * (u.pos.extractLsb' 0 8).toNat + (u.ctl.extractLsb' 0 1).toNat)
    let s : State := { small with spr := small.spr.set 4 u, clipEnd := 20 }
    (u.armed = true ∧ 10 = start) ∧ (Sprite.reset.armed = false ∧ 11 ≠ start) ∧
    (({ u with shiftA := 0x8001 } : Sprite).half = false ∧ 31 < 32 ∧ 32 ≤ 32) ∧
    (∀ p : Nat, p ∈ [0, 19] → s.spr[evenSprite 2].enabled = true ∧
      s.config.hiddenSprites.getLsbD (evenSprite 2).val = false ∧ s.clipBegin.toNat ≤ p ∧
      p < s.clipEnd.toNat) ∧ ¬ 20 < s.clipEnd.toNat ∧
    s.buffersWf ∧ s.qSpr[2] = [] ∧ 31 < s.par.hpixels ∧
    (∀ x : Fin 8, s.spr[x].shiftA = 0 ∧ s.spr[x].shiftB = 0) := by
  refine ⟨by decide, by decide, by decide, by decide +kernel, by decide, small_wf.buffers, ?_⟩
  decide +kernel

theorem witness_SpriteOffersFollowTheDepthOrder :
    (0 : Fin 8) < 7 ∧ (4#3).toNat ≤ 4 ∧
    (depthOf 0x02000000).toNat < (zSp 1).toNat ∧ (zSp 2).toNat ≤ (depthOf 0x02000000).toNat ∧
    (tagHas 0x02000020 shresPix = true ∧ isPfDepth (depthOf 0x02000020) = true ∧
      tagHas 0x02000020 sprUnder = false) ∧
    (zSp 2).toNat ≤ (depthOf 0x02000020).toNat ∧
    ¬ (tagHas 0x02000028 shresPix = true ∧ isPfDepth (depthOf 0x02000028) = true ∧
      tagHas 0x02000028 sprUnder = false) := by decide +kernel

theorem witness_PairOrderDoesNotMatter :
    (0 : Fin 4) < 3 ∧ tagHas 0x00010001 shresPix = false ∧ (1 : BitVec 2) ≠ 0 := by decide +kernel

theorem witness_InvisibleSpritesDrawNothing :
    let d : SpriteParams := { hidden := 0x02, clipBegin := 4, clipEnd := 9 }
    ¬ (Sprite.reset.enabled = true ∧ d.hidden.getLsbD (0 : Fin 8).val = false ∧
        d.clipBegin.toNat ≤ 9 ∧ 9 < d.clipEnd.toNat) ∧
    (Sprite.reset.enabled = true ∧ d.hidden.getLsbD (0 : Fin 8).val = false ∧
        d.clipBegin.toNat ≤ 4 ∧ 4 < d.clipEnd.toNat) ∧
    visible d small.spr[evenSprite 0] (evenSprite 0) 3 = false ∧
    visible d small.spr[oddSprite 0] (oddSprite 0) 3 = false := by decide +kernel

theorem witness_PairsShowTheirColorBank : depthOf 0x00000023 = 0 ∧ (3 : BitVec 2) ≠ 0 := by decide

theorem witness_SpriteSpriteCollisionsSetTheirBit :
    (((2 : Fin 4), (3 : Fin 4), 14) : Fin 4 × Fin 4 × Nat) ∈
      ([(0, 1, 9), (0, 2, 10), (0, 3, 11), (1, 2, 12), (1, 3, 13), (2, 3, 14)] :
        List (Fin 4 × Fin 4 × Nat)) := by decide

theorem witness_CollisionPassOnlySetsBits :
    let c : Config := { small.config with clxSS := false, clxSP := false, clxPP := false }
    c.clxSS = false ∧ c.clxSP = false ∧ c.clxPP = false := by decide

/-- `COLOR31` has a last record, `COLOR30` none. -/
theorem witness_ColorWritesAreQueued :
    let q : ChangeQueue := [{ triggerPixel := 3, registerId := .color 31, value := 0xFABC }]
    (q.filter fun c => decide (c.registerId = .color 31)).getLast? ≠ none ∧
    (q.filter fun c => decide (c.registerId = .color 30)).getLast? = none := by decide

theorem witness_WindowWritesAreQueued : small.par.chip = .ecs ∧
    ({ small.par with chip := .ocs } : Params).chip = .ocs := by decide

theorem witness_PaletteFollowsTheColorRegisters : small.lutWf ∧ 31 < 32 := ⟨rfl, by decide⟩

/-- The normal mode before the first record, between the two, and the SHRES mode at the last position. -/
theorem witness_ColorizerLooksUpThePalette :
    let q := midLine .bplcon0 0x0C00 0x0040 0
    let here (p : Nat) : Word := valueAt q .bplcon0 0 p
    replayable q ∧ replayable [] ∧ 31 < small.par.hpixels ∧
    (resolution small.par.chip (here 30) ≠ .shres ∧ (here 30).getLsbD 10 = true) ∧
    (resolution small.par.chip (valueAt [] .bplcon0 0 0) ≠ .shres ∧
      (valueAt [] .bplcon0 0 0).getLsbD 11 = false) ∧
    resolution small.par.chip (here 31) = .shres :=
  ⟨midLine_replayable .., replayable_nil, by decide, by decide +kernel, by decide, by decide +kernel⟩

theorem witness_HoldAndModifyRunsAlongTheLine :
    let s : State := { small with qCol := midLine .bplcon0 0x6000 0x6800 0 }
    let bplcon0 (p : Nat) : Word := valueAt s.qCol .bplcon0 s.col.bplcon0 p
    replayable s.qCol ∧ 31 < s.par.hpixels ∧ (bplcon0 30).getLsbD 11 = false ∧
    resolution s.par.chip (bplcon0 31) ≠ .shres ∧ (bplcon0 31).getLsbD 11 = true ∧
    (bplcon0 31).getLsbD 10 = false :=
  ⟨midLine_replayable .., by decide, by decide +kernel, by decide +kernel, by decide +kernel,
    by decide +kernel⟩

theorem witness_BorderOpensInsideTheWindow :
    let s : State := { small with qDiw := midLine .diwstrt 0x10 0x0F 0 }
    s.buffersWf ∧ replayable s.qDiw ∧ s.qDiw ≠ [] ∧
    small.buffersWf ∧ small.qDiw = [] ∧ 31 < small.par.hpixels :=
  ⟨small_wf.buffers, midLine_replayable .., by decide, small_wf.buffers, rfl, by decide⟩

theorem witness_HideLayerPassBlendsTowardTheCheckerboard :
    small.config.hiddenLayers = 0 ∧ 31 < (List.replicate 32 Cell.reset).length ∧
    (0xFF222222#32).extractLsb' 24 8 = 0xFF#8 := by decide

theorem witness_ResetPutsItemsToTheirResetValues : small.par.resetPolicy = .zero ∧
    ({ small.par with resetPolicy := .arbitrary } : Params).resetPolicy = .arbitrary := by decide

theorem witness_FramesBeginAndEndInOrder :
    (inFrame.frameActive = true ∧ inFrame.lineActive = false) ∧
    (small.frameActive = false ∧ small.lineActive = false) ∧ inLine.lineActive = true := by decide

theorem witness_LinesBeginWithClearedBuffers :
    small.frameActive = false ∧ (inFrame.frameActive = true ∧ inFrame.lineActive = false) ∧
    (∃ q ∈ ({ inFrame with qCol := [record 3] } : State).queues, q ≠ []) ∧
    ∀ q ∈ inFrame.queues, q = [] := by
  refine ⟨by decide, by decide, ⟨[record 3], by simp [State.queues], by simp⟩, ?_⟩
  decide

theorem witness_LinesEndWithDrainedQueues :
    small.lineActive = false ∧ (2#16) ≠ inLine.curVpos ∧ inLine.lineActive = true ∧
    1#16 = inLine.curVpos ∧ inLine.storeWf ∧
    ¬ (0 = inLine.writeIndex ∧ 0 = inLine.curVpos.toNat ∧ 0 < inLine.par.vpixels ∧
      31 < inLine.par.hpixels) :=
  ⟨by decide, by decide, by decide, by decide, small_wf.store, by decide⟩

theorem witness_LinesEndByWritingTheirRow :
    let s : State := { inLine with curVpos := 2 }
    (inLine.lineActive = true ∧ 1#16 = inLine.curVpos ∧ inLine.storeWf ∧
      (1#16).toNat < inLine.par.vpixels ∧ 31 < inLine.par.hpixels) ∧
    (s.lineActive = true ∧ 2#16 = s.curVpos ∧ s.storeWf ∧ s.par.vpixels ≤ (2#16).toNat) :=
  ⟨⟨by decide, by decide, small_wf.store, by decide, by decide⟩,
    by decide, by decide, small_wf.store, by decide⟩

theorem witness_EndedFramesBecomeStable : paramsWf inFrame.par ∧ inFrame.fb.length = inFrame.par.nFb ∧
    inFrame.writeIndex < inFrame.par.nFb ∧ inFrame.frameActive = true ∧ inFrame.lineActive = false ∧
    inFrame.frameCounter.toNat + 1 < 2 ^ 64 :=
  ⟨small_wf.par, by decide, by decide, by decide, by decide, by decide⟩

theorem witness_StableReturnsASnapshot :
    let s : State := { small with frameCounter := 1, writeIndex := 1 }
    ((0#16).toNat + 2 ≤ s.par.nFb ∧ (0#16).toNat < s.frameCounter.toNat ∧ s.writeIndex < s.par.nFb) ∧
    s.par.nFb < (1#16).toNat + 2 ∧ small.frameCounter.toNat ≤ (0#16).toNat := by decide +kernel

theorem witness_StableBuffersNeverChange :
    (∃ t, exec (.eol 1) inLine = .next t) ∧ Instr.eol 1 ≠ .reset ∧ 1 ≠ inLine.writeIndex ∧
    Instr.eol 1 ≠ .eof ∧ (∃ t, exec .eof inFrame = .next t) ∧ ∀ vpos, Instr.eof ≠ .eol vpos :=
  ⟨⟨_, rfl⟩, by decide, by decide, by decide, ⟨_, rfl⟩, fun _ h => nomatch h⟩

theorem witness_ConfigChangesTheNamedFields : inLine.lineActive = true ∧ small.lineActive = false ∧
    ({ hideOpacity := some 255 } : ConfigUpdate).hideOpacity = some 255 ∧
    ({ hideOpacity := some 255 } : ConfigUpdate).monitor = none := by decide

end Sys2Proof.Tests
end

section
/-! What performing an operation can be, said once (spec/44_line_frame_control.md R235), and the
obligation O8 about it (spec/60_exceptions.md R245, R252). -/

namespace Sys2Proof.Machine

/-! ## The meanings of the operations -/

/-- `Performs s i r`: performing `i` in `s` answers `r` by one of the meanings of the model. Operations
that share a meaning (bitplane data, display window, sprites with their enable event, colors) share a
constructor, which leaves open which of them `i` is; every other operation has its own.
`exec_performs` ties it to `exec`, so that a fact about every operation needs one case for each
constructor here. -/
inductive Performs (s : State) : Instr → Result → Prop
  | bpldat {i : Instr} (j : Fin 6) (v : Word) (px : Int) : Performs s i (writeBpldat j v px s)
  | window {i : Instr} (id : RegId) (v : Word) (px : Int) : Performs s i (queueDiw id v px s)
  | sprite {i : Instr} (x : Fin 8) (id : RegId) (v : Word) (px : Int) :
      Performs s i (queueSprite x id v px s)
  | color {i : Instr} (n : Fin 32) (v : Word) (px : Int) : Performs s i (queueColor n v px s)
  | clxcon (v : Word) (px : Int) : Performs s (.wClxcon v px) (execWClxcon v px s)
  | bplcon0 (v : Word) (px : Int) : Performs s (.wBplcon0 v px) (execWBplcon0 v px s)
  | bplcon1 (v : Word) (px : Int) : Performs s (.wBplcon1 v px) (execWBplcon1 v px s)
  | bplcon2 (v : Word) (px : Int) : Performs s (.wBplcon2 v px) (execWBplcon2 v px s)
  | bplcon3 (v : Word) (px : Int) : Performs s (.wBplcon3 v px) (execWBplcon3 v px s)
  | bpl1dat (v : Word) (px : Int) : Performs s (.wBpl1dat v px) (execWBpl1dat v px s)
  | writeClxdat (v : Word) (px : Int) : Performs s (.wClxdat v px) (execWClxdat v px s)
  | readClxdat : Performs s .rClxdat (execRClxdat s)
  | writeOther (a : Offset) (v : Word) (px : Int) : Performs s (.wOther a v px) (execWOther a v px s)
  | readOther (a : Offset) : Performs s (.rOther a) (execROther a s)
  | reset : Performs s .reset (execReset s)
  | bof (lof : Bool) : Performs s (.bof lof) (execBof lof s)
  | bol (vpos : Word) (vFlop bplDmaLine : Bool) :
      Performs s (.bol vpos vFlop bplDmaLine) (execBol vpos vFlop bplDmaLine s)
  | eol (vpos : Word) : Performs s (.eol vpos) (execEol vpos s)
  | eof : Performs s .eof (execEof s)
  | stable (offset : Word) : Performs s (.stable offset) (execStable offset s)
  | config (cfg : ConfigUpdate) : Performs s (.config cfg) (execConfig cfg s)

/-- Whatever `exec` answers is one of the meanings (R235, "perform op by its rule"). -/
theorem exec_performs (i : Instr) (s : State) : Performs s i (exec i s) := by
  cases i with
  | wBpl2dat v px | wBpl3dat v px | wBpl4dat v px | wBpl5dat v px | wBpl6dat v px =>
    exact .bpldat _ v px
  | wDiwstrt v px | wDiwstop v px => exact .window _ v px
  | wSpr0pos v px | wSpr0ctl v px | wSpr0data v px | wSpr0datb v px
  | wSpr1pos v px | wSpr1ctl v px | wSpr1data v px | wSpr1datb v px
  | wSpr2pos v px | wSpr2ctl v px | wSpr2data v px | wSpr2datb v px
  | wSpr3pos v px | wSpr3ctl v px | wSpr3data v px | wSpr3datb v px
  | wSpr4pos v px | wSpr4ctl v px | wSpr4data v px | wSpr4datb v px
  | wSpr5pos v px | wSpr5ctl v px | wSpr5data v px | wSpr5datb v px
  | wSpr6pos v px | wSpr6ctl v px | wSpr6data v px | wSpr6datb v px
  | wSpr7pos v px | wSpr7ctl v px | wSpr7data v px | wSpr7datb v px => exact .sprite _ _ v px
  | spren n on px => exact .sprite _ _ _ px
  | wColor00 v px | wColor01 v px | wColor02 v px | wColor03 v px | wColor04 v px | wColor05 v px
  | wColor06 v px | wColor07 v px | wColor08 v px | wColor09 v px | wColor10 v px | wColor11 v px
  | wColor12 v px | wColor13 v px | wColor14 v px | wColor15 v px | wColor16 v px | wColor17 v px
  | wColor18 v px | wColor19 v px | wColor20 v px | wColor21 v px | wColor22 v px | wColor23 v px
  | wColor24 v px | wColor25 v px | wColor26 v px | wColor27 v px | wColor28 v px | wColor29 v px
  | wColor30 v px | wColor31 v px => exact .color _ v px
  | wClxcon v px => exact .clxcon v px
  | wBplcon0 v px => exact .bplcon0 v px
  | wBplcon1 v px => exact .bplcon1 v px
  | wBplcon2 v px => exact .bplcon2 v px
  | wBplcon3 v px => exact .bplcon3 v px
  | wBpl1dat v px => exact .bpl1dat v px
  | wClxdat v px => exact .writeClxdat v px
  | rClxdat => exact .readClxdat
  | wOther a v px => exact .writeOther a v px
  | rOther a => exact .readOther a
  | reset => exact .reset
  | bof lof => exact .bof lof
  | bol vpos vFlop bplDmaLine => exact .bol vpos vFlop bplDmaLine
  | eol vpos => exact .eol vpos
  | eof => exact .eof
  | stable offset => exact .stable offset
  | config cfg => exact .config cfg

/-! ## What the effects do to the fatal state -/

@[simp] theorem logDiagIf_fatal (s : State) (cond : Bool) (k : DiagKind) (v : Word) :
    (s.logDiagIf cond k v).fatal = s.fatal := by
  cases cond <;> rfl

@[simp] theorem afterReset_fatal (s : State) : s.afterReset.fatal = none := by
  unfold State.afterReset
  cases s.par.resetPolicy <;> rfl

/-! ## Operations complete or fail precisely (R15, R245, R252) -/

/-- `t` is `s` with an error raised and nothing else changed, or has the fatal state of `s`, or is the
running state that RESET leaves. -/
def FailsPrecisely (i : Instr) (s t : State) : Prop :=
  (∃ kind, t = s.raiseFatal kind) ∨ t.fatal = s.fatal ∨ (i = .reset ∧ t.fatal = none)

/-- `r` is a next state in which an error, if one was raised, is the only effect. -/
def CompletesPrecisely (i : Instr) (s : State) (r : Result) : Prop :=
  ∃ t, r = .next t ∧ FailsPrecisely i s t

theorem next_completesPrecisely {i : Instr} {s t : State} (h : t.fatal = s.fatal) :
    CompletesPrecisely i s (.next t) :=
  ⟨t, rfl, .inr (.inl h)⟩

/-- The checks come before any effect, so an error is raised on the state before the operation. -/
theorem checked_completesPrecisely {i : Instr} {check : Option FatalKind} {s t : State}
    (h : t.fatal = s.fatal) : CompletesPrecisely i s (checked check s t) := by
  obtain ⟨u, hu⟩ := checked_answers check s t
  refine ⟨u, hu, ?_⟩
  obtain ⟨-, rfl⟩ | ⟨kind, -, rfl⟩ := checked_next hu
  · exact .inr (.inl h)
  · exact .inl ⟨kind, rfl⟩

theorem execWBplcon3_completesPrecisely (i : Instr) (v : Word) (px : Int) (s : State) :
    CompletesPrecisely i s (execWBplcon3 v px s) := by
  unfold execWBplcon3
  split
  case isTrue => exact next_completesPrecisely rfl
  case isFalse => exact checked_completesPrecisely rfl

theorem execStable_completesPrecisely (i : Instr) (offset : Word) (s : State) :
    CompletesPrecisely i s (execStable offset s) := by
  unfold execStable
  split <;> exact next_completesPrecisely (respond_fatal _ _)

/-- Beside RESET, every meaning is a next state with the fatal state of before, or a checked effect
that leaves the fatal state as it was. -/
theorem Performs.completesPrecisely {s : State} {i : Instr} {r : Result} (h : Performs s i r) :
    CompletesPrecisely i s r := by
  cases h with
  | bpldat | window | sprite | color | clxcon | bplcon1 | bof =>
    exact checked_completesPrecisely rfl
  | bplcon0 | bplcon2 => exact checked_completesPrecisely (logDiagIf_fatal _ _ _ _)
  | bplcon3 v px => exact execWBplcon3_completesPrecisely _ v px s
  | bpl1dat v px => exact checked_completesPrecisely (loadAndDraw_fatal _ _ _)
  | bol vpos vFlop bplDmaLine =>
    exact checked_completesPrecisely (beginLine_fatal s vpos vFlop bplDmaLine)
  | eol => exact checked_completesPrecisely (endLine_fatal s)
  | eof => exact checked_completesPrecisely (rotate_fatal s)
  | config cfg => exact checked_completesPrecisely (configure_fatal s cfg)
  | writeClxdat | writeOther => exact next_completesPrecisely rfl
  | readClxdat | readOther => exact next_completesPrecisely (respond_fatal _ _)
  | stable offset => exact execStable_completesPrecisely _ offset s
  | reset => exact ⟨s.afterReset, rfl, .inr (.inr ⟨rfl, afterReset_fatal s⟩)⟩

/-- Settles O8: each meaning of the model is a next state, and raises an error only through the checks
that come before its effect. -/
theorem operationsCompleteOrFailPrecisely : Obligations.OperationsCompleteOrFailPrecisely :=
  fun i s => (exec_performs i s).completesPrecisely

end Sys2Proof.Machine
end

section
/-! What the state after an operation or a step can be, said once (spec/44_line_frame_control.md R235,
spec/60_exceptions.md R245), and how an invariant is shown to hold after every step. -/

namespace Sys2Proof.Machine

/-! ## The state after an operation -/

/-- The diagnostic log after `Diag(kind, value)` where the condition holds (R120, R140, R248). -/
def diagLogIf (log : List Diag) (cond : Bool) (kind : DiagKind) (value : Word) : List Diag :=
  if cond then log ++ [{ kind := kind, value := value }] else log

/-- A diagnostic reaches the log and nothing else (R248). -/
theorem logDiagIf_eq (s : State) (cond : Bool) (kind : DiagKind) (value : Word) :
    s.logDiagIf cond kind value = { s with diagLog := diagLogIf s.diagLog cond kind value } := by
  cases cond <;> rfl

/-- The state a `BPLCON0` write leaves once its checks have passed: the record in three queues, the
immediate copy, and the diagnostic (R112, R120). -/
def State.queueBplcon0 (s : State) (v : Word) (px : Int) : State :=
  { s with
    qCtrl := enqueue (bplcon0Change v px) s.qCtrl
    qDiw := enqueue (bplcon0Change v px) s.qDiw
    qCol := enqueue (bplcon0Change v px) s.qCol
    reg := { s.reg with bplcon0 := v }
    diagLog := diagLogIf s.diagLog (unusualBpu s.par.chip v) .unusualBpu v }

/-- The state a `BPLCON2` write leaves once its checks have passed: the record and the diagnostic
(R139, R140). -/
def State.queueBplcon2 (s : State) (v : Word) (px : Int) : State :=
  { s with
    qCtrl := enqueue { triggerPixel := px, registerId := .bplcon2, value := v } s.qCtrl
    diagLog := diagLogIf s.diagLog (!legalPriority (pf1p v) || !legalPriority (pf2p v))
      .priorityOutOfRange v }

/-- `Effect s i t`: performing `i` in `s` can leave `t`, either an error raised on `s` or the effect of
one of the meanings. A queued record tells whether it is for `BPLCON0`, which three queues share (R66).
`exec_effect` ties it to `exec`. -/
inductive Effect (s : State) : Instr → State → Prop
  | raised {i : Instr} (kind : FatalKind) : Effect s i (s.raiseFatal kind)
  | ignored {i : Instr} : Effect s i s
  | immediate {i : Instr} (r : Regs) : Effect s i { s with reg := r }
  | bpldat {i : Instr} (j : Fin 6) (v : Word) : Effect s i { s with bpldat := s.bpldat.set j v }
  | window {i : Instr} {c : Change} (hid : c.registerId ≠ .bplcon0) :
      Effect s i { s with qDiw := enqueue c s.qDiw }
  | sprite {i : Instr} (k : Fin 4) (c : Change) :
      Effect s i { s with qSpr := s.qSpr.set k (enqueue c s.qSpr[k]) }
  | color {i : Instr} {c : Change} (hid : c.registerId ≠ .bplcon0) :
      Effect s i { s with qCol := enqueue c s.qCol }
  | bplcon0 (v : Word) (px : Int) : Effect s (.wBplcon0 v px) (s.queueBplcon0 v px)
  | bplcon2 (v : Word) (px : Int) : Effect s (.wBplcon2 v px) (s.queueBplcon2 v px)
  | bpl1dat (v : Word) (px : Int) : Effect s (.wBpl1dat v px) (s.loadAndDraw v px)
  | readClxdat (r : Response) : Effect s .rClxdat ({ s with clxdat := 0 }.respond r)
  | readOther (a : Offset) (r : Response) : Effect s (.rOther a) (s.drawFree.respond r)
  | reset : Effect s .reset s.afterReset
  | bof (lof : Bool) : Effect s (.bof lof) { s with frameActive := true, curLof := lof }
  | bol (vpos : Word) (vFlop bplDmaLine : Bool) :
      Effect s (.bol vpos vFlop bplDmaLine) (s.beginLine vpos vFlop bplDmaLine)
  | eol (vpos : Word) : Effect s (.eol vpos) s.endLine
  | eof : Effect s .eof { s.rotate with frameActive := false }
  | stable (offset : Word) (r : Response) : Effect s (.stable offset) (s.respond r)
  | config (u : ConfigUpdate) : Effect s (.config u) (s.configure u)

/-- A checked operation leaves its effect, or the error of a check. -/
theorem Effect.of_checked {i : Instr} {check : Option FatalKind} {s t u : State}
    (h : checked check s u = .next t) (he : Effect s i u) : Effect s i t := by
  obtain ⟨-, rfl⟩ | ⟨kind, -, rfl⟩ := checked_next h
  · exact he
  · exact .raised kind

/-- An operation without checks leaves its effect. -/
theorem Effect.of_next {i : Instr} {s t u : State} (h : (.next u : Result) = .next t)
    (he : Effect s i u) : Effect s i t := by
  obtain rfl : u = t := by simpa using h
  exact he

theorem execWBplcon3_effect {i : Instr} {v : Word} {px : Int} {s t : State}
    (h : execWBplcon3 v px s = .next t) : Effect s i t := by
  unfold execWBplcon3 at h
  split at h
  case isTrue => exact .of_next h .ignored
  case isFalse => exact .of_checked h (.window nofun)

theorem execStable_effect {offset : Word} {s t : State} (h : execStable offset s = .next t) :
    Effect s (.stable offset) t := by
  unfold execStable at h
  split at h <;> exact .of_next h (.stable offset _)

/-- Every operation leaves one of the effects (R235). -/
theorem exec_effect {i : Instr} {s t : State} (h : exec i s = .next t) : Effect s i t := by
  cases i with
  | wBpl2dat v px | wBpl3dat v px | wBpl4dat v px | wBpl5dat v px | wBpl6dat v px =>
    exact .of_checked h (.bpldat _ v)
  | wClxcon | wBplcon1 => exact .of_checked h (.immediate _)
  | wDiwstrt | wDiwstop => exact .of_checked h (.window nofun)
  | wBplcon3 => exact execWBplcon3_effect h
  | wBplcon0 v px => exact .of_checked h (logDiagIf_eq .. ▸ .bplcon0 v px)
  | wBplcon2 v px => exact .of_checked h (logDiagIf_eq .. ▸ .bplcon2 v px)
  | wBpl1dat v px => exact .of_checked h (.bpl1dat v px)
  | wColor00 | wColor01 | wColor02 | wColor03 | wColor04 | wColor05 | wColor06 | wColor07
  | wColor08 | wColor09 | wColor10 | wColor11 | wColor12 | wColor13 | wColor14 | wColor15
  | wColor16 | wColor17 | wColor18 | wColor19 | wColor20 | wColor21 | wColor22 | wColor23
  | wColor24 | wColor25 | wColor26 | wColor27 | wColor28 | wColor29 | wColor30 | wColor31 =>
    exact .of_checked h (.color nofun)
  | wClxdat | wOther => exact .of_next h .ignored
  | rClxdat => exact .of_next h (.readClxdat _)
  | rOther a => exact .of_next h (.readOther a _)
  | reset => exact .of_next h .reset
  | bof lof => exact .of_checked h (.bof lof)
  | bol vpos vFlop bplDmaLine => exact .of_checked h (.bol vpos vFlop bplDmaLine)
  | eol vpos => exact .of_checked h (.eol vpos)
  | eof => exact .of_checked h .eof
  | stable offset => exact execStable_effect h
  | config cfg => exact .of_checked h (.config cfg)
  | _ => exact .of_checked h (.sprite _ _)

/-! ## The state after a step (R235) -/

/-- What a step can leave: the same state on a pause (R82), a refusal the host is told of (R95), or the
effect of the operation that the next access word decodes to. -/
theorem step_next {s t : State} (h : step s = .next t) :
    t = s ∨ (∃ why, t = s.popInput.respond (.refused why)) ∨
      ∃ op rest i, s.input = op :: rest ∧ decode op = .instr i ∧ Effect s.popInput i t := by
  unfold step at h
  split at h
  case h_1 => cases h
  case h_2 =>
    split at h
    case h_1 => exact .inl (by simpa using h.symm)
    case h_2 op rest hinput =>
      split at h
      case h_1 why _ => exact .inr (.inl ⟨why, by simpa using h.symm⟩)
      case h_2 i hdecode => exact .inr (.inr ⟨op, rest, i, hinput, hdecode, exec_effect h⟩)

/-- An invariant that does not look at the input and the responses, and that every operation keeps,
holds after every step. -/
theorem step_keeps {P : State → Prop} {s t : State} (h : step s = .next t) (hs : P s)
    (hpop : ∀ u : State, P u → P u.popInput) (hrespond : ∀ (u : State) r, P u → P (u.respond r))
    (hexec : ∀ op rest i, s.input = op :: rest → decode op = .instr i → P s.popInput →
      Effect s.popInput i t → P t) : P t := by
  obtain rfl | ⟨why, rfl⟩ | ⟨op, rest, i, hinput, hdecode, he⟩ := step_next h
  · exact hs
  · exact hrespond _ _ (hpop _ hs)
  · exact hexec op rest i hinput hdecode (hpop _ hs) he

/-! ## The parameters and the configuration (R46) -/

@[simp] theorem afterReset_par (s : State) : s.afterReset.par = s.par := by
  unfold State.afterReset
  cases s.par.resetPolicy <;> rfl

@[simp] theorem afterReset_config (s : State) : s.afterReset.config = s.config := by
  unfold State.afterReset
  cases s.par.resetPolicy <;> rfl

/-- No effect changes the parameters (R8, R46). -/
theorem Effect.par_eq {i : Instr} {s t : State} (h : Effect s i t) : t.par = s.par := by
  cases h with
  | bpl1dat => exact loadAndDraw_par ..
  | reset => exact afterReset_par s
  | eol => exact endLine_par s
  | _ => rfl

/-- Only CONFIG changes the configuration (R46, R231). -/
theorem Effect.config_eq {i : Instr} {s t : State} (h : Effect s i t) (hi : ∀ u, i ≠ .config u) :
    t.config = s.config := by
  cases h with
  | bpl1dat => exact loadAndDraw_config ..
  | reset => exact afterReset_config s
  | eol => exact endLine_config s
  | config u => exact absurd rfl (hi u)
  | _ => rfl

/-- Settles O10, by the effects one by one. -/
theorem onlyConfigChangesTheConfiguration : Obligations.OnlyConfigChangesTheConfiguration :=
  fun _ _ _ h => ⟨(exec_effect h).par_eq, (exec_effect h).config_eq⟩

end Sys2Proof.Machine
end

section
/-! The three replayed copies of `BPLCON0` (spec/10_state.md R24): the records they are replayed from,
their values after a line, and that every step keeps them equal. -/

namespace Sys2Proof.Machine

/-! ## The `BPLCON0` records of a queue (R66, R67) -/

/-- A record before every other one of a queue goes to its front. -/
theorem enqueue_of_lt {c : Change} {q : ChangeQueue} (h : ∀ x ∈ q, c.triggerPixel < x.triggerPixel) :
    enqueue c q = c :: q := by
  cases q with
  | nil => rfl
  | cons x q => rw [enqueue, if_pos (by simpa using h)]

/-- A record goes behind a first record that is not later. -/
theorem enqueue_of_le {c x : Change} {q : ChangeQueue} (h : x.triggerPixel ≤ c.triggerPixel) :
    enqueue c (x :: q) = x :: enqueue c q := by
  rw [enqueue, if_neg]
  simp only [List.all_cons, Bool.and_eq_true, decide_eq_true_eq, not_and]
  exact fun hlt => absurd hlt (not_lt.2 h)

/-- Insertion and the choice of some records commute in a sorted queue, if the new one is chosen. -/
theorem filter_enqueue_of_pos {p : Change → Bool} {c : Change} {q : ChangeQueue} (hp : p c = true)
    (hq : sortedQueue q) : (enqueue c q).filter p = enqueue c (q.filter p) := by
  induction q with
  | nil => simp [enqueue, hp]
  | cons x q ih =>
    obtain ⟨hx, hq⟩ := List.pairwise_cons.1 hq
    by_cases h : x.triggerPixel ≤ c.triggerPixel
    · rw [enqueue_of_le h, List.filter_cons, List.filter_cons]
      split
      · rw [ih hq, enqueue_of_le h]
      · exact ih hq
    · have hlt : ∀ y ∈ x :: q, c.triggerPixel < y.triggerPixel :=
        List.forall_mem_cons.2 ⟨not_le.1 h, fun y hy => lt_of_lt_of_le (not_le.1 h) (hx y hy)⟩
      rw [enqueue_of_lt hlt, List.filter_cons_of_pos hp,
        enqueue_of_lt fun y hy => hlt y (List.mem_of_mem_filter hy)]

/-- The insertion of a record that is not chosen leaves the chosen ones as they were. -/
theorem filter_enqueue_of_neg {p : Change → Bool} {c : Change} {q : ChangeQueue} (hp : p c = false) :
    (enqueue c q).filter p = q.filter p := by
  induction q with
  | nil => simp [enqueue, hp]
  | cons x q ih =>
    rw [enqueue]
    split
    · rw [List.filter_cons_of_neg (by simp [hp])]
    · rw [List.filter_cons, List.filter_cons, ih]

theorem bplcon0Changes_enqueue_of_ne {c : Change} {q : ChangeQueue} (h : c.registerId ≠ .bplcon0) :
    bplcon0Changes (enqueue c q) = bplcon0Changes q :=
  filter_enqueue_of_neg (by simpa using h)

/-- The same `BPLCON0` record goes to the same place among equal `BPLCON0` records. -/
theorem bplcon0Changes_enqueue_congr {v : Word} {px : Int} {q r : ChangeQueue} (hq : sortedQueue q)
    (hr : sortedQueue r) (h : bplcon0Changes q = bplcon0Changes r) :
    bplcon0Changes (enqueue (bplcon0Change v px) q) =
      bplcon0Changes (enqueue (bplcon0Change v px) r) := by
  have hsel : decide ((bplcon0Change v px).registerId = .bplcon0) = true := by simp [bplcon0Change]
  unfold bplcon0Changes at h ⊢
  rw [filter_enqueue_of_pos hsel hq, filter_enqueue_of_pos hsel hr, h]

/-! ## The replayed copies of `BPLCON0` after a line (R131, R194, R196) -/

/-- The value that the `BPLCON0` records `q` leave in a copy that held `old` (R68). -/
def lastBplcon0 (q : ChangeQueue) (old : Word) : Word := (q.getLast?.map (·.value)).getD old

/-- A copy that the `BPLCON0` records set, and other records leave, ends at the last of them. -/
theorem foldl_bplcon0 {τ : Type} (f : τ → Word) (g : τ → Change → τ)
    (h : ∀ x c, f (g x c) = if c.registerId = .bplcon0 then c.value else f x)
    (q : ChangeQueue) (st : τ) : f (q.foldl g st) = lastBplcon0 (bplcon0Changes q) (f st) :=
  foldl_last f g (fun c => decide (c.registerId = .bplcon0)) (·.value) (fun x c => by simp [h]) q st

theorem applyCtrlRegs_bplcon0 (st : Ctrl) (c : Change) :
    (applyCtrlRegs st c).bplcon0 = if c.registerId = .bplcon0 then c.value else st.bplcon0 := by
  unfold applyCtrlRegs
  cases c.registerId <;> rfl

theorem applyDiwRegs_bplcon0 (st : Diw) (c : Change) :
    (applyDiwRegs st c).bplcon0 = if c.registerId = .bplcon0 then c.value else st.bplcon0 := by
  unfold applyDiwRegs
  cases c.registerId <;> rfl

theorem applyColRegs_bplcon0 (st : Col) (c : Change) :
    (applyColRegs st c).bplcon0 = if c.registerId = .bplcon0 then c.value else st.bplcon0 := by
  unfold applyColRegs
  cases c.registerId <;> rfl

/-- A position changes no replayed register of the colorizer. -/
theorem colorPixel_col (chip : Chip) (lut : Vector Device 4096) (buf : LineBufs) (x : ColorState)
    (p : Nat) : (colorPixel chip lut buf x p).col = x.col := by
  unfold colorPixel
  cases colorMode chip x.col.bplcon0 <;> rfl

/-- The translator's registers after the line: every record of its queue applied in order (R131). -/
theorem translate_ctrl (s : State) : s.translate.ctrl = s.qCtrl.foldl applyCtrlRegs s.ctrl :=
  replay_part TranslateState.ctrl applyCtrlRegs s.qCtrl _ (fun _ _ => rfl) fun _ _ => rfl

/-- The colorizer's registers after the line: every record of its queue applied in order (R196). -/
theorem outputLine_col (s : State) : s.outputLine.col = s.qCol.foldl applyColRegs s.col :=
  replay_part ColorState.col applyColRegs s.qCol _ (fun _ _ => rfl) (colorPixel_col _ _ _)

theorem translate_bplcon0 (s : State) :
    s.translate.ctrl.bplcon0 = lastBplcon0 (bplcon0Changes s.qCtrl) s.ctrl.bplcon0 := by
  rw [translate_ctrl]
  exact foldl_bplcon0 Ctrl.bplcon0 applyCtrlRegs applyCtrlRegs_bplcon0 _ _

theorem borderFill_bplcon0 (s : State) :
    s.borderFill.diw.bplcon0 = lastBplcon0 (bplcon0Changes s.qDiw) s.diw.bplcon0 := by
  have h : s.borderFill.diw.bplcon0 = _ :=
    replay_part (fun x : BorderState => x.diw.bplcon0)
      (fun b c => if c.registerId = .bplcon0 then c.value else b) s.qDiw _
      (fun x c => applyDiwRegs_bplcon0 x.diw c) (fun _ _ => rfl)
  rw [h]
  exact foldl_bplcon0 id _ (fun _ _ => rfl) _ _

theorem outputLine_bplcon0 (s : State) :
    s.outputLine.col.bplcon0 = lastBplcon0 (bplcon0Changes s.qCol) s.col.bplcon0 := by
  rw [outputLine_col]
  exact foldl_bplcon0 Col.bplcon0 applyColRegs applyColRegs_bplcon0 _ _

/-! ## The copies stay equal (R24) -/

theorem copiesWf_queueBplcon2 {s : State} {v : Word} {px : Int} (h : s.copiesWf) :
    (s.queueBplcon2 v px).copiesWf := by
  obtain ⟨hdiw, hcol, hqDiw, hqCol⟩ := h
  refine ⟨hdiw, hcol, ?_, ?_⟩
  · exact (bplcon0Changes_enqueue_of_ne (by simp)).trans hqDiw
  · exact (bplcon0Changes_enqueue_of_ne (by simp)).trans hqCol

/-- A `BPLCON0` write inserts the same record among equal `BPLCON0` records (R66). -/
theorem copiesWf_queueBplcon0 {s : State} {v : Word} {px : Int} (hq : s.queuesWf) (h : s.copiesWf) :
    (s.queueBplcon0 v px).copiesWf := by
  obtain ⟨hdiw, hcol, hqDiw, hqCol⟩ := h
  have hsorted : ∀ q ∈ s.queues, sortedQueue q := fun q hmem => (hq q hmem).1
  have sortedCtrl : sortedQueue s.qCtrl := hsorted _ (by simp [State.queues])
  have sortedDiw : sortedQueue s.qDiw := hsorted _ (by simp [State.queues])
  have sortedCol : sortedQueue s.qCol := hsorted _ (by simp [State.queues])
  exact ⟨hdiw, hcol, bplcon0Changes_enqueue_congr sortedCtrl sortedDiw hqDiw,
    bplcon0Changes_enqueue_congr sortedCtrl sortedCol hqCol⟩

/-- Equal copies end a line equal, because equal records are replayed into them, and the queues are
empty after it (R68). -/
theorem copiesWf_endLine {s : State} (h : s.copiesWf) : s.endLine.copiesWf := by
  obtain ⟨hdiw, hcol, hqDiw, hqCol⟩ := h
  have ctrlEnd : s.endLine.ctrl.bplcon0 = lastBplcon0 (bplcon0Changes s.qCtrl) s.ctrl.bplcon0 := by
    simp [State.endLine, translate_bplcon0]
  have diwEnd : s.endLine.diw.bplcon0 = lastBplcon0 (bplcon0Changes s.qDiw) s.diw.bplcon0 := by
    simp [State.endLine, borderFill_bplcon0]
  have colEnd : s.endLine.col.bplcon0 = lastBplcon0 (bplcon0Changes s.qCol) s.col.bplcon0 := by
    simp [State.endLine, outputLine_bplcon0]
  refine ⟨?_, ?_, by simp, by simp⟩
  · rw [ctrlEnd, diwEnd, hqDiw, hdiw]
  · rw [ctrlEnd, colEnd, hqCol, hcol]

/-- A RESET under the policy `zero` clears all three copies (R265). -/
theorem copiesWf_afterReset {s : State} (h : s.par.resetPolicy = .zero) : s.afterReset.copiesWf := by
  simp [State.afterReset, h, State.copiesWf, State.resetItems, resetWord, resetSource]

/-- Settles O16: only a `BPLCON0` write adds such records, and it adds the same one to all three queues;
a line end replays all three. -/
theorem stepKeepsReplayedCopiesEqual : Obligations.StepKeepsReplayedCopiesEqual := by
  intro s t hreset hqueues hcopies h
  refine step_keeps h hcopies (fun _ hu => hu) (fun _ _ hu => hu)
    fun op rest i hinput hdecode hs he => ?_
  cases he with
  | window hid =>
    obtain ⟨hdiw, hcol, hqDiw, hqCol⟩ := hs
    exact ⟨hdiw, hcol, hqDiw.trans (bplcon0Changes_enqueue_of_ne hid).symm, hqCol⟩
  | color hid =>
    obtain ⟨hdiw, hcol, hqDiw, hqCol⟩ := hs
    exact ⟨hdiw, hcol, hqDiw, hqCol.trans (bplcon0Changes_enqueue_of_ne hid).symm⟩
  | bplcon0 => exact copiesWf_queueBplcon0 hqueues hs
  | bplcon2 => exact copiesWf_queueBplcon2 hs
  | bpl1dat => simpa [State.copiesWf] using hs
  | reset =>
    obtain hzero | hother := hreset
    · exact copiesWf_afterReset hzero
    · exact absurd hdecode (hother op rest hinput)
  | eol => exact copiesWf_endLine hs
  | _ => exact hs

end Sys2Proof.Machine
end

section
/-! The legal depth tags (spec/10_state.md R40 to R42), which every step keeps, and the depth test of
an offer (spec/42_sprites_collision.md R160, R163). -/

namespace Sys2Proof.Machine

/-! ## The DEPTH field of a tag (R40, R41) -/

@[simp] theorem depthOf_or (a b : Tag) : depthOf (a ||| b) = depthOf a ||| depthOf b := by
  simp [depthOf, BitVec.and_or_distrib_right]

@[simp] theorem depthOf_flagIf (cond : Bool) (f : Tag) :
    depthOf (flagIf cond f) = flagIf cond (depthOf f) := by
  cases cond
  · simp [flagIf, depthOf]
  · rfl

@[simp] theorem depthOf_zero : depthOf 0#32 = 0#32 := rfl
@[simp] theorem depthOf_pf1Solid : depthOf pf1Solid = 0#32 := rfl
@[simp] theorem depthOf_pf2Solid : depthOf pf2Solid = 0#32 := rfl
@[simp] theorem depthOf_dpfFlag : depthOf dpfFlag = 0#32 := rfl
@[simp] theorem depthOf_sprUnder : depthOf sprUnder = 0#32 := rfl
@[simp] theorem depthOf_visPf2 : depthOf visPf2 = 0#32 := rfl
@[simp] theorem depthOf_shresPix : depthOf shresPix = 0#32 := rfl
@[simp] theorem depthOf_sprSolid : ∀ x, depthOf (sprSolid x) = 0#32 := by decide
@[simp] theorem depthOf_zPf : ∀ c, depthOf (zPf c) = zPf c := by decide
@[simp] theorem depthOf_zSp : ∀ n, depthOf (zSp n) = zSp n := by decide

@[simp] theorem flagIf_zero (cond : Bool) : flagIf cond 0#32 = 0#32 := by cases cond <;> rfl

theorem depthOf_not_depthMask (x : Tag) : depthOf (x &&& ~~~depthMask) = 0#32 := by
  rw [depthOf, BitVec.and_assoc, show ~~~depthMask &&& depthMask = 0#32 from rfl, BitVec.and_zero]

theorem depthLegal_zPf (c : BitVec 3) : depthLegal (zPf c) := by
  unfold depthLegal
  revert c
  decide

theorem depthLegal_zSp (n : Fin 8) : depthLegal (zSp n) := by
  have h : ∀ n, isSprDepth (zSp n) = true := by decide
  exact .inr (.inl (h n))

/-! ## What the passes put into a depth tag -/

theorem depthOf_flagged (z : Tag) (solid1 solid2 : Bool) :
    depthOf (z ||| flagIf solid1 pf1Solid ||| flagIf solid2 pf2Solid) = depthOf z := by simp

theorem depthLegal_ite_zPf (cond : Prop) [Decidable cond] (c : BitVec 3) :
    depthLegal (depthOf (if cond then zPf c else 0)) := by
  split
  · simpa using depthLegal_zPf c
  · exact .inl rfl

theorem depthLegal_spfPixel (st : Ctrl) (r : BitVec 6) : depthLegal (depthOf (spfPixel st r).2) := by
  unfold spfPixel
  dsimp only
  rw [depthOf_flagged]
  exact depthLegal_ite_zPf _ _

theorem depthLegal_dpfPixel (st : Ctrl) (r : BitVec 6) : depthLegal (depthOf (dpfPixel st r).2) := by
  unfold dpfPixel
  dsimp only
  split_ifs
  · simpa using depthLegal_zPf _
  · simpa using depthLegal_zPf _
  · exact .inl (by simp)

theorem depthLegal_shresPixel (st : Ctrl) (r : BitVec 6) :
    depthLegal (depthOf (shresPixel st r).2) := by
  unfold shresPixel
  dsimp only
  rw [depthOf_flagged, depthOf_or, depthOf_shresPix, BitVec.or_zero]
  exact depthLegal_ite_zPf _ _

/-- A translated pixel has no depth or that of its playfield's priority, in every mode (R133, R135,
R137). -/
theorem depthLegal_translateRaw (chip : Chip) (st : Ctrl) (r : BitVec 6) :
    depthLegal (depthOf (translateRaw chip st r).2) := by
  unfold translateRaw
  split_ifs
  · exact depthLegal_shresPixel st r
  · exact depthLegal_dpfPixel st r
  · exact depthLegal_spfPixel st r

/-- An offer of a sprite's depth leaves the old depth or that of the sprite (R160, R163). -/
theorem depthLegal_offer (n : Fin 8) (idx : BitVec 7) (x : SpritePixel) (h : depthLegal (depthOf x.2)) :
    depthLegal (depthOf (offer (zSp n) idx x).2) := by
  unfold offer
  dsimp only
  split_ifs
  · simpa [depthOf_not_depthMask] using depthLegal_zSp n
  · simpa using h
  · exact h

@[simp] theorem depthOf_markSolid (x : Fin 8) (sel : BitVec 2) (px : SpritePixel) :
    depthOf (markSolid x sel px).2 = depthOf px.2 := by
  unfold markSolid
  split <;> simp

theorem depthLegal_pairPixel (k : Fin 4) (att : Bool) (se so : BitVec 2) (x : SpritePixel)
    (h : depthLegal (depthOf x.2)) : depthLegal (depthOf (pairPixel k att se so x).2) := by
  have hmarked :
      depthLegal (depthOf (markSolid (oddSprite k) so (markSolid (evenSprite k) se x)).2) := by
    simpa using h
  unfold pairPixel
  dsimp only
  split_ifs
  · exact hmarked
  · exact depthLegal_offer _ _ _ hmarked
  · exact hmarked
  · exact depthLegal_offer _ _ _ hmarked
  · exact depthLegal_offer _ _ _ hmarked
  · exact depthLegal_offer _ _ _ (depthLegal_offer _ _ _ hmarked)

/-! ## The tags of a line stay legal (R42) -/

/-- Every tag of a buffer has a legal DEPTH field; `State.depthWf` says it of `buf.depthTag`. -/
def tagsLegal (tags : List Tag) : Prop := ∀ x ∈ tags, depthLegal (depthOf x)

theorem tagsLegal_cleared (hpixels : Nat) : tagsLegal (LineBufs.cleared hpixels).depthTag :=
  fun _ hx => .inl (by rw [List.eq_of_mem_replicate hx]; rfl)

theorem tagsLegal_setPixel {tags : List Tag} {p : Nat} {v : Tag} (h : tagsLegal tags)
    (hv : depthLegal (depthOf v)) : tagsLegal (setPixel tags p v) := fun x hx => by
  obtain hx | rfl := mem_setPixel hx
  · exact h x hx
  · exact hv

theorem depthLegal_pixelAt {tags : List Tag} (h : tagsLegal tags) (p : Nat) :
    depthLegal (depthOf (pixelAt tags p)) := by
  obtain hmem | hzero := pixelAt_mem (b := tags) (p := p)
  · exact h _ hmem
  · exact .inl (by rw [hzero]; rfl)

/-- The translator writes one legal tag at each position (R131). -/
theorem depthWf_translate {s : State} (h : s.depthWf) : s.translate.depthWf :=
  replay_keeps (P := fun x : TranslateState => tagsLegal x.buf.depthTag) (fun _ _ _ hx => hx)
    (fun _ _ hx => tagsLegal_setPixel hx (depthLegal_translateRaw _ _ _)) h

/-- A pair's pass writes the tag that its offers leave at each position (R157). -/
theorem depthWf_spriteLine {s : State} (k : Fin 4) (h : s.depthWf) : (s.spriteLine k).depthWf :=
  replay_keeps (P := fun x : SpriteState => tagsLegal x.buf.depthTag) (fun _ _ _ hx => hx)
    (fun _ p hx => tagsLegal_setPixel hx
      (depthLegal_pairPixel _ _ _ _ _ (depthLegal_pixelAt hx p))) h

theorem depthWf_spriteLines {s : State} (h : s.depthWf) : s.spriteLines.depthWf :=
  depthWf_spriteLine 3 (depthWf_spriteLine 2 (depthWf_spriteLine 1 (depthWf_spriteLine 0 h)))

/-- The border fill writes no tag (R194). -/
theorem borderFill_depthTag (s : State) : s.borderFill.buf.depthTag = s.buf.depthTag :=
  replay_keeps (P := fun x : BorderState => x.buf.depthTag = s.buf.depthTag) (fun _ _ _ hx => hx)
    (fun _ _ hx => hx) rfl

theorem depthWf_endLine {s : State} (h : s.depthWf) : s.endLine.depthWf := by
  have hpasses : s.translate.spriteLines.collide.depthWf := depthWf_spriteLines (depthWf_translate h)
  unfold State.depthWf at hpasses ⊢
  rwa [← borderFill_depthTag] at hpasses

theorem depthWf_afterReset (s : State) : s.afterReset.depthWf := by
  unfold State.afterReset
  cases s.par.resetPolicy <;> exact tagsLegal_cleared s.par.hpixels

/-- Settles O17: tags are written by the translator, the sprite passes and the clearing of the
buffers, and each writes legal ones. -/
theorem stepKeepsDepthTagsLegal : Obligations.StepKeepsDepthTagsLegal := by
  intro s t hdepth h
  refine step_keeps h hdepth (fun _ hu => hu) (fun _ _ hu => hu) fun _ _ _ _ _ hs he => ?_
  cases he with
  | bpl1dat => simpa [State.depthWf] using hs
  | reset => exact depthWf_afterReset _
  | bol => exact tagsLegal_cleared _
  | eol => exact depthWf_endLine hs
  | _ => exact hs

/-! ## The order of the depths and the depth test (R41, R160, R163) -/

theorem zSp_lt_zSp : ∀ n m : Fin 8, n < m → (zSp m).toNat < (zSp n).toNat := by decide

theorem zPf_lt_zSp_iff : ∀ (n : Fin 8) (c : BitVec 3), c.toNat ≤ 4 →
    ((zPf c).toNat < (zSp n).toNat ↔ n.val / 2 < c.toNat) := by decide

theorem zSp_outside_depthMask : ∀ n, zSp n &&& ~~~depthMask = 0#32 := by decide

/-- An offer that wins the depth test puts its depth in the place of the old one (R160). -/
theorem offer_of_lt {z : Tag} {idx : BitVec 7} {x : SpritePixel} (h : (depthOf x.2).toNat < z.toNat) :
    offer z idx x = (idx, (x.2 &&& ~~~depthMask) ||| z) := by
  unfold offer
  exact if_pos h

/-- An offer that loses the depth test marks a SHRES playfield pixel that no sprite is under (R163). -/
theorem offer_under {z : Tag} {idx : BitVec 7} {x : SpritePixel} (h : z.toNat ≤ (depthOf x.2).toNat)
    (hunder : tagHas x.2 shresPix = true ∧ isPfDepth (depthOf x.2) = true ∧
      tagHas x.2 sprUnder = false) :
    offer z idx x = (idx, x.2 ||| sprUnder) := by
  unfold offer
  rw [if_neg (not_lt.2 h)]
  exact if_pos hunder

/-- Any other offer that loses the depth test changes nothing (R160). -/
theorem offer_lost {z : Tag} {idx : BitVec 7} {x : SpritePixel} (h : z.toNat ≤ (depthOf x.2).toNat)
    (hunder : ¬ (tagHas x.2 shresPix = true ∧ isPfDepth (depthOf x.2) = true ∧
      tagHas x.2 sprUnder = false)) : offer z idx x = x := by
  unfold offer
  rw [if_neg (not_lt.2 h)]
  exact if_neg hunder

/-- Settles O35, branch by branch of the depth test. -/
theorem spriteOffersFollowTheDepthOrder : Obligations.SpriteOffersFollowTheDepthOrder := by
  refine ⟨zSp_lt_zSp, zPf_lt_zSp_iff, fun n idx x => ⟨fun h => ?_, offer_under, offer_lost⟩⟩
  rw [offer_of_lt h]
  refine ⟨rfl, by simp [depthOf_not_depthMask], ?_⟩
  rw [BitVec.and_or_distrib_right, zSp_outside_depthMask, BitVec.and_assoc, BitVec.and_self,
    BitVec.or_zero]

end Sys2Proof.Machine
end

section
/-! What every step keeps of the frame store (spec/10_state.md R44, R73, R74) and of the pipeline, the
scanline buffers and the lookup table (R36, R39, R43). -/

namespace Sys2Proof.Machine

/-! ## The frame store (R44, R73, R74) -/

/-- Every buffer of a canonical store is canonical, and so is the reset buffer that is read past the
last one. -/
theorem bufferAt_wf {fb : List FrameBuffer} (h : ∀ f ∈ fb, f.cells.wf = true) (b : Nat) :
    (bufferAt fb b).cells.wf = true := by
  rw [bufferAt, List.getD_eq_getElem?_getD]
  obtain hnone | ⟨f, hsome⟩ := Option.eq_none_or_eq_some fb[b]?
  · rw [hnone]; rfl
  · rw [hsome]; exact h f (List.mem_of_getElem? hsome)

theorem resetCells_wf (par : Params) (src : ResetItem → BitVec 64) (b : Nat) :
    (resetCells par src b).wf = true := by
  unfold resetCells
  cases par.resetPolicy
  · exact Memory.wf_nil
  · exact Memory.wf_tabulate ..

theorem storeWf_resetItems {s : State} (hpar : paramsWf s.par) (src : ResetItem → BitVec 64) :
    (s.resetItems src).storeWf := by
  obtain ⟨hnFb, -⟩ := hpar
  refine ⟨by simp [State.resetItems], lt_of_lt_of_le Nat.zero_lt_two hnFb, fun f hf => ?_⟩
  obtain ⟨b, -, rfl⟩ := List.mem_map.1 hf
  exact resetCells_wf ..

theorem storeWf_afterReset {s : State} (hpar : paramsWf s.par) : s.afterReset.storeWf := by
  unfold State.afterReset
  cases s.par.resetPolicy <;> exact storeWf_resetItems hpar _

/-- Writing a line keeps the number of buffers and their canonical form (R204). -/
theorem storeWf_writeLine {s : State} (h : s.storeWf) (line : List Cell) :
    (s.writeLine line).storeWf := by
  obtain ⟨hlength, hindex, hcells⟩ := h
  have hfold : (s.writeLine line).fb.length = s.par.nFb ∧
      ∀ f ∈ (s.writeLine line).fb, f.cells.wf = true :=
    foldl_keeps (P := fun fb : List FrameBuffer => fb.length = s.par.nFb ∧ ∀ f ∈ fb, f.cells.wf = true)
      (fun _ _ hfb => ⟨(length_fbWrite ..).trans hfb.1, fbWrite_wf hfb.2⟩) ⟨hlength, hcells⟩
  exact ⟨hfold.1, hindex, hfold.2⟩

theorem storeWf_endLine {s : State} (h : s.storeWf) : s.endLine.storeWf := by
  have hpasses : s.translate.spriteLines.collide.borderFill.storeWf := by
    simpa [State.storeWf] using h
  exact storeWf_writeLine hpasses _

/-- The ring moves on to one of its buffers, and the finished one keeps its cells (R207). -/
theorem storeWf_rotate {s : State} (hpar : paramsWf s.par) (h : s.storeWf) : s.rotate.storeWf := by
  obtain ⟨hnFb, -⟩ := hpar
  obtain ⟨hlength, -, hcells⟩ := h
  refine ⟨by simpa [State.rotate] using hlength, Nat.mod_lt _ (lt_of_lt_of_le Nat.zero_lt_two hnFb),
    fun f hf => ?_⟩
  obtain hf | rfl := List.mem_or_eq_of_mem_set hf
  · exact hcells f hf
  · exact bufferAt_wf hcells s.writeIndex

/-- Every effect keeps the store, given a ring of at least two buffers. -/
theorem Effect.storeWf {i : Instr} {s t : State} (he : Effect s i t) (hpar : paramsWf s.par)
    (hs : s.storeWf) : t.storeWf := by
  cases he with
  | bpl1dat => simpa [State.storeWf] using hs
  | reset => exact storeWf_afterReset hpar
  | eol => exact storeWf_endLine hs
  | eof => exact storeWf_rotate hpar hs
  | _ => exact hs

/-- Settles O18: a line end writes cells, a frame end moves the ring on, and RESET makes the buffers
anew. -/
theorem stepKeepsFrameStoreCanonical : Obligations.StepKeepsFrameStoreCanonical := by
  intro s t hpar hstore h
  exact step_keeps h hstore (fun _ hu => hu) (fun _ _ hu => hu)
    fun _ _ _ _ _ hs he => he.storeWf hpar hs

/-! ## The draw step empties the shift registers (R36, R116) -/

/-- The planes of the list shift by one. -/
def shiftPlanes (planes : List (Fin 6)) (shift : Vector Word 6) : Vector Word 6 :=
  planes.foldl (fun (sh : Vector Word 6) (i : Fin 6) => sh.set i (sh[i] <<< 1)) shift

@[simp] theorem drawPlane_shift (d : DrawParams) (k : Nat) (st : DrawState) (i : Fin 6) :
    (drawPlane d k st i).shift = st.shift := by
  unfold drawPlane
  cases d.res <;> rfl

/-- One round shifts the group's registers and no other. -/
theorem drawPixel_shift (d : DrawParams) (g : PlaneGroup) (st : DrawState) (k : Nat) :
    (drawPixel d g st k).shift = shiftPlanes (groupPlanes g) st.shift := by
  have hdrawn : ∀ planes : List (Fin 6), (planes.foldl (drawPlane d k) st).shift = st.shift :=
    fun planes => foldl_keeps (P := fun x : DrawState => x.shift = st.shift)
      (fun x i hx => (drawPlane_shift d k x i).trans hx) rfl
  rw [drawPixel, ← hdrawn (drawnPlanes d.res g)]
  cases g <;> rfl

theorem shiftPlanes_groupPlanes (g : PlaneGroup) (shift : Vector Word 6) (i : Fin 6) :
    (shiftPlanes (groupPlanes g) shift)[i] =
      if i ∈ groupPlanes g then shift[i] <<< 1 else shift[i] := by
  cases g <;> fin_cases i <;> simp [shiftPlanes, groupPlanes]

/-- Rounds of the draw step shift a register of the group once each, and leave the others. -/
theorem foldl_drawPixel_shift (d : DrawParams) (g : PlaneGroup) (ks : List Nat) (st : DrawState)
    (i : Fin 6) :
    (ks.foldl (drawPixel d g) st).shift[i] =
      if i ∈ groupPlanes g then st.shift[i] <<< ks.length else st.shift[i] := by
  induction ks generalizing st with
  | nil => simp
  | cons k ks ih =>
    rw [List.foldl_cons, ih, drawPixel_shift, shiftPlanes_groupPlanes]
    split
    · rw [← BitVec.shiftLeft_add, List.length_cons, Nat.add_comm]
    · rfl

/-- The 16 rounds leave 0 in the group's registers and the other registers as they were. -/
theorem drawSixteen_shift (d : DrawParams) (g : PlaneGroup) (st : DrawState) (i : Fin 6) :
    (drawSixteen d g st).shift[i] = if i ∈ groupPlanes g then 0 else st.shift[i] := by
  rw [drawSixteen, foldl_drawPixel_shift]
  split
  · exact BitVec.shiftLeft_eq_zero le_rfl
  · rfl

theorem drawGroup_shift (s : State) (g : PlaneGroup) (start : Int) (res : Resolution) (n : Nat)
    (i : Fin 6) :
    (s.drawGroup g start res n).shift[i] = if i ∈ groupPlanes g then 0 else (s.loadGroup g).shift[i] :=
  drawSixteen_shift ..

/-- A pipeline load reaches the registers of its group only (R116). -/
theorem loadGroup_shift_of_not_mem {s : State} {g : PlaneGroup} {i : Fin 6} (h : i ∉ groupPlanes g) :
    (s.loadGroup g).shift[i] = s.shift[i] := by
  unfold State.loadGroup
  split
  · cases g <;> fin_cases i <;> simp_all [groupPlanes]
  · rfl

theorem mem_groupPlanes_odd_of_not_even : ∀ i : Fin 6, i ∉ groupPlanes .even → i ∈ groupPlanes .odd := by
  decide

/-- Both groups are drawn, so every register ends at 0. -/
theorem loadAndDraw_shift (s : State) (v : Word) (px : Int) :
    (s.loadAndDraw v px).shift = Vector.replicate 6 0 := by
  suffices ∀ i : Fin 6, (s.loadAndDraw v px).shift[i] = 0 by
    exact Vector.ext fun i hi => by simpa using this ⟨i, hi⟩
  intro i
  unfold State.loadAndDraw
  dsimp only
  rw [drawGroup_shift]
  split
  case isTrue => rfl
  case isFalse heven =>
    rw [loadGroup_shift_of_not_mem heven, drawGroup_shift,
      if_pos (mem_groupPlanes_odd_of_not_even i heven)]

theorem drawGroup_odd_armedOdd (s : State) (start : Int) (res : Resolution) (n : Nat) :
    (s.drawGroup .odd start res n).armedOdd = false := by
  change (s.loadGroup .odd).armedOdd = false
  unfold State.loadGroup
  split
  · rfl
  · simpa [State.armedGroup] using ‹¬ s.armedGroup .odd = true›

theorem drawGroup_even_armedEven (s : State) (start : Int) (res : Resolution) (n : Nat) :
    (s.drawGroup .even start res n).armedEven = false := by
  change (s.loadGroup .even).armedEven = false
  unfold State.loadGroup
  split
  · rfl
  · simpa [State.armedGroup] using ‹¬ s.armedGroup .even = true›

theorem drawGroup_even_armedOdd (s : State) (start : Int) (res : Resolution) (n : Nat) :
    (s.drawGroup .even start res n).armedOdd = s.armedOdd := by
  change (s.loadGroup .even).armedOdd = s.armedOdd
  unfold State.loadGroup
  split <;> rfl

/-- A `BPL1DAT` write leaves the pipeline empty, whatever it held (R36, R115). -/
theorem pipelineWf_loadAndDraw (s : State) (v : Word) (px : Int) : (s.loadAndDraw v px).pipelineWf :=
  ⟨(drawGroup_even_armedOdd ..).trans (drawGroup_odd_armedOdd ..), drawGroup_even_armedEven ..,
    loadAndDraw_shift s v px⟩

theorem Effect.pipelineWf {i : Instr} {s t : State} (he : Effect s i t) (hs : s.pipelineWf) :
    t.pipelineWf := by
  cases he with
  | bpl1dat v px => exact pipelineWf_loadAndDraw s v px
  | reset =>
    unfold State.afterReset
    cases s.par.resetPolicy <;> exact ⟨rfl, rfl, rfl⟩
  | eol => simpa [State.pipelineWf] using hs
  | _ => exact hs

/-! ## The scanline buffers keep their length (R39) -/

/-- Each of the five buffers has `hpixels` entries; `State.buffersWf` says it of `buf`. -/
def LineBufs.hasLength (b : LineBufs) (hpixels : Nat) : Prop :=
  b.rawBits.length = hpixels ∧ b.borderFlag.length = hpixels ∧ b.colorIndex.length = hpixels ∧
  b.multiplexedIndex.length = hpixels ∧ b.depthTag.length = hpixels

theorem cleared_hasLength (hpixels : Nat) : (LineBufs.cleared hpixels).hasLength hpixels := by
  simp [LineBufs.hasLength, LineBufs.cleared]

@[simp] theorem length_setBit (hpixels : Nat) (raw : List (BitVec 6)) (pos : Int) (j : Nat) (b : Bool) :
    (setBit hpixels raw pos j b).length = raw.length := by
  unfold setBit
  split <;> simp

@[simp] theorem length_drawPlane_raw (d : DrawParams) (k : Nat) (st : DrawState) (i : Fin 6) :
    (drawPlane d k st i).raw.length = st.raw.length := by
  unfold drawPlane
  cases d.res <;> simp

theorem length_drawPixel_raw (d : DrawParams) (g : PlaneGroup) (st : DrawState) (k : Nat) :
    (drawPixel d g st k).raw.length = st.raw.length :=
  foldl_keeps (P := fun x : DrawState => x.raw.length = st.raw.length) (fun _ _ hx => hx)
    (foldl_keeps (P := fun x : DrawState => x.raw.length = st.raw.length)
      (fun _ _ hx => (length_drawPlane_raw ..).trans hx) rfl)

@[simp] theorem length_drawGroup_rawBits (s : State) (g : PlaneGroup) (start : Int) (res : Resolution)
    (n : Nat) : (s.drawGroup g start res n).buf.rawBits.length = s.buf.rawBits.length := by
  rw [← loadGroup_buf s g]
  exact foldl_keeps (P := fun x : DrawState => x.raw.length = (s.loadGroup g).buf.rawBits.length)
    (fun _ _ hx => (length_drawPixel_raw ..).trans hx) rfl

theorem buffersWf_loadAndDraw {s : State} (h : s.buffersWf) (v : Word) (px : Int) :
    (s.loadAndDraw v px).buffersWf := by
  have hraw : (s.loadAndDraw v px).buf.rawBits.length = s.buf.rawBits.length := by
    simp [State.loadAndDraw, State.pipelineLoad]
  simpa [State.buffersWf, hraw] using h

theorem translatePixel_hasLength (chip : Chip) (hpixels : Nat) (x : TranslateState) (p : Nat)
    (h : x.buf.hasLength hpixels) : (translatePixel chip x p).buf.hasLength hpixels := by
  simpa [LineBufs.hasLength, translatePixel] using h

theorem spritePixel_hasLength (d : SpriteParams) (k : Fin 4) (hpixels : Nat) (x : SpriteState) (p : Nat)
    (h : x.buf.hasLength hpixels) : (spritePixel d k x p).buf.hasLength hpixels := by
  simpa [LineBufs.hasLength, spritePixel] using h

theorem borderPixel_hasLength (chip : Chip) (vFlop : Bool) (hpixels : Nat) (x : BorderState) (p : Nat)
    (h : x.buf.hasLength hpixels) : (borderPixel chip vFlop x p).buf.hasLength hpixels := by
  simpa [LineBufs.hasLength, borderPixel] using h

theorem buffersWf_translate {s : State} (h : s.buffersWf) : s.translate.buffersWf :=
  replay_keeps (P := fun x : TranslateState => x.buf.hasLength s.par.hpixels) (fun _ _ _ hx => hx)
    (translatePixel_hasLength _ _) h

theorem buffersWf_spriteLine {s : State} (k : Fin 4) (h : s.buffersWf) : (s.spriteLine k).buffersWf :=
  replay_keeps (P := fun x : SpriteState => x.buf.hasLength s.par.hpixels) (fun _ _ _ hx => hx)
    (spritePixel_hasLength _ k _) h

theorem buffersWf_spriteLines {s : State} (h : s.buffersWf) : s.spriteLines.buffersWf :=
  buffersWf_spriteLine 3 (buffersWf_spriteLine 2 (buffersWf_spriteLine 1 (buffersWf_spriteLine 0 h)))

theorem buffersWf_borderFill {s : State} (h : s.buffersWf) : s.borderFill.buffersWf :=
  replay_keeps (P := fun x : BorderState => x.buf.hasLength s.par.hpixels) (fun _ _ _ hx => hx)
    (borderPixel_hasLength _ _ _) h

/-- The passes of a line end write at positions of the buffers only (R228). -/
theorem buffersWf_endLine {s : State} (h : s.buffersWf) : s.endLine.buffersWf := by
  have hpasses : s.translate.spriteLines.collide.buffersWf :=
    buffersWf_spriteLines (buffersWf_translate h)
  exact buffersWf_borderFill hpasses

theorem Effect.buffersWf {i : Instr} {s t : State} (he : Effect s i t) (hs : s.buffersWf) :
    t.buffersWf := by
  cases he with
  | bpl1dat v px => exact buffersWf_loadAndDraw hs v px
  | reset =>
    unfold State.afterReset
    cases s.par.resetPolicy <;> exact cleared_hasLength s.par.hpixels
  | bol => exact cleared_hasLength s.par.hpixels
  | eol => exact buffersWf_endLine hs
  | _ => exact hs

/-! ## The lookup table (R43, R231) -/

/-- CONFIG recomputes the table where a part of its name changes (R231). -/
theorem lutWf_configure {s : State} (h : s.lutWf) (u : ConfigUpdate) : (s.configure u).lutWf := by
  unfold State.lutWf State.configure
  dsimp only
  split
  case isTrue => rfl
  case isFalse hnone =>
    simp only [Bool.or_eq_true, not_or, Option.not_isSome_iff_eq_none] at hnone
    obtain ⟨hmonitor, hlut⟩ := hnone
    simpa [State.lutWf, updateConfig, hmonitor, hlut] using h

theorem Effect.lutWf {i : Instr} {s t : State} (he : Effect s i t) (hs : s.lutWf) : t.lutWf := by
  cases he with
  | bpl1dat => simpa [State.lutWf] using hs
  | reset =>
    unfold State.afterReset
    cases s.par.resetPolicy <;> rfl
  | eol => simpa [State.lutWf] using hs
  | config u => exact lutWf_configure hs u
  | _ => exact hs

/-- Settles O19: a `BPL1DAT` write drains the pipeline it fills, the passes write inside the buffers,
and CONFIG recomputes the table with its name. -/
theorem stepKeepsPipelineBuffersAndTable : Obligations.StepKeepsPipelineBuffersAndTable := by
  intro s t hpipeline hbuffers hlut h
  exact step_keeps (P := fun u => u.pipelineWf ∧ u.buffersWf ∧ u.lutWf) h ⟨hpipeline, hbuffers, hlut⟩
    (fun _ hu => hu) (fun _ _ hu => hu)
    fun _ _ _ _ _ ⟨hp, hb, hl⟩ he => ⟨he.pipelineWf hp, he.buffersWf hb, he.lutWf hl⟩

end Sys2Proof.Machine
end

section
/-! Writes that are queued (spec/44_line_frame_control.md R233, R247), the color registers
(spec/43_color_framebuffer.md R185, R196), and the entries of the lookup table (R188, R190). -/

namespace Sys2Proof.Machine

/-! ## Queued writes (R67, R233, R247) -/

theorem checked_some {check : Option FatalKind} {kind : FatalKind} {s u : State}
    (h : check = some kind) : checked check s u = .next (s.raiseFatal kind) := by rw [h, checked]

theorem checked_none {check : Option FatalKind} {s u : State} (h : check = none) :
    checked check s u = .next u := by rw [h, checked]

/-- An operation that runs the checks of a queued write does what a queued write does. -/
theorem queuedWrite_of_checked {i : Instr} {px : Int} {qs : List ChangeQueue} {s effect : State}
    (h : exec i s = checked ((writePre s px).or (overflowCheck s.par.changeCap qs)) s effect) :
    queuedWrite i px qs s effect := by
  unfold queuedWrite
  rw [h]
  refine ⟨fun hline => ?_, fun hline hpx => ?_, fun hline hpx hfull => ?_, fun hline hpx hroom => ?_⟩
  · exact checked_some (by rw [writePre_outside hline, Option.some_or])
  · exact checked_some (by rw [writePre_negative hline hpx, Option.some_or])
  · exact checked_some (by rw [writePre_inside hline hpx, Option.none_or, overflowCheck_full hfull])
  · exact checked_none (queuedChecks_eq_none.2 ⟨⟨hline, hpx⟩, hroom⟩)

/-! ## The color registers (R185, R196) -/

/-- The write of color register `n` is the one meaning that all color writes share (R185). -/
theorem exec_colorWrite (n : Fin 32) (v : Word) (px : Int) (s : State) :
    exec (colorWrite n v px) s = queueColor n v px s := by
  fin_cases n <;> rfl

theorem applyColRegs_color (st : Col) (c : Change) (n : Fin 32) :
    (applyColRegs st c).color[n] =
      if c.registerId = .color n then c.value.extractLsb' 0 12 else st.color[n] := by
  obtain ⟨px, id, v⟩ := c
  cases id with
  | color m =>
    simp only [applyColRegs, RegId.color.injEq, Fin.getElem_fin, Vector.getElem_set, Fin.ext_iff]
    rfl
  | _ => rfl

/-- After the line a color register holds its last record, or what it held (R68, R196). -/
theorem outputLine_color (s : State) (n : Fin 32) :
    s.outputLine.col.color[n] =
      (((s.qCol.filter fun c => decide (c.registerId = .color n)).getLast?).map
        (·.value.extractLsb' 0 12)).getD s.col.color[n] := by
  rw [outputLine_col]
  exact foldl_last (fun st : Col => st.color[n]) applyColRegs
    (fun c => decide (c.registerId = .color n)) (·.value.extractLsb' 0 12)
    (fun st c => by simpa using applyColRegs_color st c n) s.qCol s.col

/-- Settles O43, from the shared meaning of the color writes and the replay as a fold over the queue. -/
theorem colorWritesAreQueued : Obligations.ColorWritesAreQueued := by
  refine ⟨fun n v px s => ?_, fun st m n v px => ⟨?_, rfl, rfl⟩, fun s n => ?_⟩
  · exact queuedWrite_of_checked (exec_colorWrite n v px s)
  · rw [applyColRegs_color]
    simp only [RegId.color.injEq, eq_comm (a := n)]
  · exact ⟨outputLine_color s n, outputLine_bplcon0 s, rfl⟩

/-! ## The entries of the lookup table (R188, R190) -/

/-- A byte at the place of byte `k` of a device color, whose bytes 0 to 3 are red, green, blue and
alpha (R9, R63). -/
def placedByte (k : Fin 4) (x : BitVec 8) : Device := x.setWidth 32 <<< (8 * k.val)

/-- A placed byte is read back at its place, and nothing stands at the others. -/
theorem extract_placedByte (k j : Fin 4) (x : BitVec 8) :
    (placedByte k x).extractLsb' (8 * j.val) 8 = if j = k then x else 0 := by
  ext i hi
  rw [placedByte, BitVec.getElem_extractLsb', BitVec.getLsbD_shiftLeft, BitVec.getLsbD_setWidth]
  obtain rfl | hne := eq_or_ne j k
  · simp [hi, show 8 * j.val + i < 32 by omega, show i < 32 by omega]
  · rw [if_neg hne]
    obtain hbelow | habove : 8 * j.val + i < 8 * k.val ∨ 8 ≤ 8 * j.val + i - 8 * k.val := by omega
    · simp [hbelow]
    · simp [BitVec.getLsbD_of_ge x _ habove]

/-- The device color with four given bytes. -/
def deviceOf (byte : Fin 4 → BitVec 8) : Device :=
  placedByte 3 (byte 3) ||| placedByte 2 (byte 2) ||| placedByte 1 (byte 1) ||| placedByte 0 (byte 0)

theorem extract_deviceOf (byte : Fin 4 → BitVec 8) (j : Fin 4) :
    (deviceOf byte).extractLsb' (8 * j.val) 8 = byte j := by
  simp only [deviceOf, BitVec.extractLsb'_or, extract_placedByte]
  fin_cases j <;> simp

/-- The 4-bit channel `j` of a color, in the order of the device color's bytes (R32, R63). -/
def channel (c : Color) (j : Nat) : BitVec 4 := c.extractLsb' (8 - 4 * j) 4

/-- 17 times a 4-bit channel is the channel twice, so it fits a byte (R190). -/
theorem mul_17_eq_append_self : ∀ x : BitVec 4, 17#32 * x.setWidth 32 = (x ++ x).setWidth 32 := by
  decide

theorem toNat_append_self : ∀ x : BitVec 4, (x ++ x).toNat = 17 * x.toNat := by decide

/-- The bytes of a color at neutral settings: each channel twice, under alpha 0xFF (R190). -/
def neutralByte (c : Color) (j : Fin 4) : BitVec 8 :=
  if j = 3 then 0xFF#8 else channel c j ++ channel c j

theorem lutNeutral_eq (c : Color) : lutNeutral c = deviceOf (neutralByte c) := by
  have halpha : 0xFF000000#32 = placedByte 3 0xFF#8 := rfl
  simp [lutNeutral, deviceOf, neutralByte, mul_17_eq_append_self, halpha, placedByte, channel]

theorem lutNeutral_channel (c : Color) (j : Fin 3) :
    ((lutNeutral c).extractLsb' (8 * j.val) 8).toNat = 17 * (c.extractLsb' (8 - 4 * j.val) 4).toNat := by
  have hcolor : j.castSucc ≠ 3 := (Fin.castSucc_lt_last j).ne
  have hbyte : (lutNeutral c).extractLsb' (8 * j.val) 8 = channel c j ++ channel c j := by
    rw [lutNeutral_eq, ← Fin.val_castSucc j, extract_deviceOf, neutralByte, if_neg hcolor]
  rw [hbyte, toNat_append_self, channel]

theorem lutNeutral_alpha (c : Color) : (lutNeutral c).extractLsb' 24 8 = 0xFF#8 := by
  rw [lutNeutral_eq]
  exact extract_deviceOf _ 3

/-- Every entry of a lookup table has alpha 0xFF (R188; log 7 for the settings that are not neutral). -/
theorem lutOf_alpha (f : LutId) (m : Monitor) (c : Color) :
    (lutOf f m c).extractLsb' 24 8 = 0xFF#8 := by
  cases m with
  | neutral => exact lutNeutral_alpha c
  | setting =>
    have hset : (0xFF000000#32).extractLsb' 24 8 = 0xFF#8 := rfl
    have hmask : (0x00FFFFFF#32).extractLsb' 24 8 = 0#8 := rfl
    rw [lutOf, BitVec.extractLsb'_or, BitVec.extractLsb'_and, hset, hmask, BitVec.and_zero,
      BitVec.or_zero]

/-- Settles O46, from the bytes of a neutral color and the entries of a tabulated function. -/
theorem lookupTableScalesChannels : Obligations.LookupTableScalesChannels := by
  refine ⟨lutOf_alpha, fun _ c j => lutNeutral_channel c j, fun _ => rfl, fun f m c => ?_⟩
  have hentry := lutTable_get f m c.toNat c.isLt
  rwa [BitVec.ofNat_toNat, BitVec.setWidth_eq] at hentry

end Sys2Proof.Machine
end

section
/-! The invariants of the change queues (spec/20_memory.md R66, R67, R69, R70) and of the line and frame
sequence (spec/44_line_frame_control.md R232), which every step keeps, and the step in the fatal state
(spec/60_exceptions.md R245). The checks of an operation say what its effect may rely on, so these proofs
go over the meanings (`Performs`) with their checks. -/

namespace Sys2Proof.Machine

/-! ## The operation a step performs (R235) -/

/-- A step that leaves a state starts in a running one; it pauses (R82), refuses a word (R95) or performs
an operation. -/
theorem step_next_performs {s t : State} (h : step s = .next t) :
    s.fatal = none ∧ (t = s ∨ (∃ why, t = s.popInput.respond (.refused why)) ∨
      ∃ i, Performs s.popInput i (.next t)) := by
  unfold step at h
  split at h
  case h_1 => cases h
  case h_2 hfatal =>
    refine ⟨hfatal, ?_⟩
    split at h
    case h_1 => exact .inl (by simpa using h.symm)
    case h_2 =>
      split at h
      case h_1 why _ => exact .inr (.inl ⟨why, by simpa using h.symm⟩)
      case h_2 i _ => exact .inr (.inr ⟨i, h ▸ exec_performs i s.popInput⟩)

/-- An invariant that does not look at the input and the responses, and that every meaning keeps, holds
after every step. -/
theorem step_keeps_performs {P : State → Prop} {s t : State} (h : step s = .next t) (hs : P s)
    (hpop : ∀ u : State, P u → P u.popInput) (hrespond : ∀ (u : State) r, P u → P (u.respond r))
    (hperforms : ∀ {u : State} {i : Instr}, P u → Performs u i (.next t) → P t) : P t := by
  obtain ⟨-, rfl | ⟨why, rfl⟩ | ⟨i, hi⟩⟩ := step_next_performs h
  · exact hs
  · exact hrespond _ _ (hpop _ hs)
  · exact hperforms (hpop _ hs) hi

/-- What a raised error keeps, and the effect keeps once the checks have passed, a checked operation
keeps. -/
theorem checked_keeps {P : State → Prop} {check : Option FatalKind} {s u t : State}
    (h : checked check s u = .next t) (hraise : ∀ kind, P (s.raiseFatal kind))
    (heffect : check = none → P u) : P t := by
  obtain ⟨hcheck, rfl⟩ | ⟨kind, -, rfl⟩ := checked_next h
  · exact heffect hcheck
  · exact hraise kind

/-- A `BPLCON3` write is ignored or queued like the other window writes (R193). -/
theorem execWBplcon3_or (v : Word) (px : Int) (s : State) :
    execWBplcon3 v px s = .next s ∨ execWBplcon3 v px s = queueDiw .bplcon3 v px s := by
  unfold execWBplcon3
  exact ite_eq_or_eq ..

/-- STABLE only tells the host something (R230). -/
theorem execStable_responds (offset : Word) (s : State) :
    ∃ r, execStable offset s = .next (s.respond r) := by
  unfold execStable
  split <;> exact ⟨_, rfl⟩

/-! ## Sorted queues within their capacity (R66, R67, R70) -/

/-- What `State.queuesWf` says of each queue. -/
def queueWf (cap : Nat) (q : ChangeQueue) : Prop :=
  sortedQueue q ∧ q.length ≤ cap ∧ ∀ c ∈ q, 0 ≤ c.triggerPixel

theorem queueWf_nil (cap : Nat) : queueWf cap [] :=
  ⟨List.Pairwise.nil, Nat.zero_le _, fun _ h => nomatch h⟩

/-- A record at a pixel that is not negative may go into a queue that is not full (R67). -/
theorem queueWf_enqueue {cap : Nat} {q : ChangeQueue} {c : Change} (hq : queueWf cap q)
    (hpx : 0 ≤ c.triggerPixel) (hroom : q.length ≠ cap) : queueWf cap (enqueue c q) := by
  obtain ⟨hsorted, hlength, hpixels⟩ := hq
  refine ⟨sortedQueue_enqueue hsorted, ?_, fun x hx => ?_⟩
  · rw [length_enqueue]
    omega
  · obtain rfl | hx := mem_enqueue.1 hx
    · exact hpx
    · exact hpixels x hx

theorem forall_fin4 {p : Fin 4 → Prop} : (∀ k, p k) ↔ p 0 ∧ p 1 ∧ p 2 ∧ p 3 := by
  simp [Fin.forall_fin_succ]

/-- The seven queues one by one. -/
theorem queuesWf_iff {s : State} :
    s.queuesWf ↔ queueWf s.par.changeCap s.qCtrl ∧ (∀ k : Fin 4, queueWf s.par.changeCap s.qSpr[k]) ∧
      queueWf s.par.changeCap s.qDiw ∧ queueWf s.par.changeCap s.qCol := by
  rw [forall_fin4]
  simp [State.queuesWf, State.queues, queueWf, and_assoc]

/-- Empty queues are well-formed. -/
theorem queuesWf_of_empty {s : State} (h : ∀ q ∈ s.queues, q = []) : s.queuesWf := fun q hq => by
  rw [h q hq]
  exact queueWf_nil _

theorem queuesWf_set_qSpr {s : State} {k : Fin 4} {q : ChangeQueue} (hs : s.queuesWf)
    (hq : queueWf s.par.changeCap q) : ({ s with qSpr := s.qSpr.set k q } : State).queuesWf := by
  obtain ⟨hctrl, hspr, hdiw, hcol⟩ := queuesWf_iff.1 hs
  refine queuesWf_iff.2 ⟨hctrl, fun j => ?_, hdiw, hcol⟩
  simp only [Fin.getElem_fin, Vector.getElem_set]
  split
  · exact hq
  · exact hspr j

/-! ## Empty queues -/

theorem queuesEmpty_iff {s : State} : s.queuesEmpty = true ↔ ∀ q ∈ s.queues, q = [] := by
  simp [State.queuesEmpty, State.queues, List.isEmpty_iff, and_assoc]

/-- The four sprite passes empty the four pair queues (R157). -/
theorem spriteLines_qSpr (s : State) : s.spriteLines.qSpr = Vector.replicate 4 [] := by
  simp only [State.spriteLines, spriteLine_qSpr]
  ext k hk : 1
  interval_cases k <;> simp

theorem endLine_qSpr (s : State) : s.endLine.qSpr = Vector.replicate 4 [] := by
  simp [State.endLine, spriteLines_qSpr]

/-- The end of a line drains every queue (R228). -/
theorem endLine_queues (s : State) : ∀ q ∈ s.endLine.queues, q = [] := by
  simp [State.queues, endLine_qSpr]

theorem afterReset_queues (s : State) : ∀ q ∈ s.afterReset.queues, q = [] := by
  unfold State.afterReset
  cases s.par.resetPolicy <;> simp [State.resetItems, State.queues, State.drawFree]

/-! ## Every step keeps the queues well-formed -/

/-- The effect of a queued write may rely on a pixel that is not negative and on room in the queues it
fills (R67). -/
theorem queuesWf_of_queued {px : Int} {cap : Nat} {qs : List ChangeQueue} {s u t : State}
    (h : checked ((writePre s px).or (overflowCheck cap qs)) s u = .next t) (hs : s.queuesWf)
    (hu : 0 ≤ px → (∀ q ∈ qs, q.length ≠ cap) → u.queuesWf) : t.queuesWf := by
  refine checked_keeps h (fun _ => hs) fun hcheck => ?_
  obtain ⟨⟨-, hpx⟩, hroom⟩ := queuedChecks_eq_none.1 hcheck
  exact hu hpx hroom

theorem queuesWf_queueDiw {id : RegId} {v : Word} {px : Int} {s t : State} (hs : s.queuesWf)
    (h : queueDiw id v px s = .next t) : t.queuesWf := by
  obtain ⟨hctrl, hspr, hdiw, hcol⟩ := queuesWf_iff.1 hs
  exact queuesWf_of_queued h hs fun hpx hroom =>
    queuesWf_iff.2 ⟨hctrl, hspr, queueWf_enqueue hdiw hpx (hroom _ (by simp)), hcol⟩

theorem queuesWf_queueColor {n : Fin 32} {v : Word} {px : Int} {s t : State} (hs : s.queuesWf)
    (h : queueColor n v px s = .next t) : t.queuesWf := by
  obtain ⟨hctrl, hspr, hdiw, hcol⟩ := queuesWf_iff.1 hs
  exact queuesWf_of_queued h hs fun hpx hroom =>
    queuesWf_iff.2 ⟨hctrl, hspr, hdiw, queueWf_enqueue hcol hpx (hroom _ (by simp))⟩

theorem queuesWf_queueSprite {x : Fin 8} {id : RegId} {v : Word} {px : Int} {s t : State}
    (hs : s.queuesWf) (h : queueSprite x id v px s = .next t) : t.queuesWf := by
  obtain ⟨-, hspr, -, -⟩ := queuesWf_iff.1 hs
  exact queuesWf_of_queued h hs fun hpx hroom =>
    queuesWf_set_qSpr hs (queueWf_enqueue (hspr (pairOf x)) hpx (hroom _ (by simp)))

/-- A `BPLCON0` write finds room in all three of its queues (R67, R112). -/
theorem queuesWf_execWBplcon0 {v : Word} {px : Int} {s t : State} (hs : s.queuesWf)
    (h : execWBplcon0 v px s = .next t) : t.queuesWf := by
  obtain ⟨hctrl, hspr, hdiw, hcol⟩ := queuesWf_iff.1 hs
  refine queuesWf_of_queued h hs fun hpx hroom => ?_
  rw [logDiagIf_eq]
  exact queuesWf_iff.2 ⟨queueWf_enqueue hctrl hpx (hroom _ (by simp)), hspr,
    queueWf_enqueue hdiw hpx (hroom _ (by simp)), queueWf_enqueue hcol hpx (hroom _ (by simp))⟩

theorem queuesWf_execWBplcon2 {v : Word} {px : Int} {s t : State} (hs : s.queuesWf)
    (h : execWBplcon2 v px s = .next t) : t.queuesWf := by
  obtain ⟨hctrl, hspr, hdiw, hcol⟩ := queuesWf_iff.1 hs
  refine queuesWf_of_queued h hs fun hpx hroom => ?_
  rw [logDiagIf_eq]
  exact queuesWf_iff.2 ⟨queueWf_enqueue hctrl hpx (hroom _ (by simp)), hspr, hdiw, hcol⟩

/-- The meanings that do not look at the queues, BOL and the control operations among them, leave each
queue as it was; EOL and RESET empty all of them. -/
theorem Performs.queuesWf {s t : State} {i : Instr} (h : Performs s i (.next t)) (hs : s.queuesWf) :
    t.queuesWf := by
  generalize hr : (Host.Outcome.next t : Result) = r at h
  cases h with
  | window => exact queuesWf_queueDiw hs hr.symm
  | sprite => exact queuesWf_queueSprite hs hr.symm
  | color => exact queuesWf_queueColor hs hr.symm
  | bplcon0 => exact queuesWf_execWBplcon0 hs hr.symm
  | bplcon2 => exact queuesWf_execWBplcon2 hs hr.symm
  | bplcon3 v px =>
    obtain hignored | hqueued := execWBplcon3_or v px s
    · cases hr.trans hignored; exact hs
    · exact queuesWf_queueDiw hs (hr.trans hqueued).symm
  | bpl1dat v px =>
    exact checked_keeps hr.symm (fun _ => hs) fun _ => by simpa [State.queuesWf, State.queues] using hs
  | eol => exact checked_keeps hr.symm (fun _ => hs) fun _ => queuesWf_of_empty (endLine_queues s)
  | reset => cases hr; exact queuesWf_of_empty (afterReset_queues s)
  | bpldat | clxcon | bplcon1 | bof | bol | eof | config =>
    exact checked_keeps hr.symm (fun _ => hs) fun _ => hs
  | writeClxdat | writeOther | readClxdat | readOther => cases hr; exact hs
  | stable offset =>
    obtain ⟨_, hresponds⟩ := execStable_responds offset s
    cases hr.trans hresponds; exact hs

/-- Settles O13, meaning by meaning: a queued write has passed the checks for a negative pixel and for
room, and the other operations keep or empty the queues. -/
theorem stepKeepsQueuesSorted : Obligations.StepKeepsQueuesSorted :=
  fun _ _ hs h => step_keeps_performs h hs (fun _ hu => hu) (fun _ _ hu => hu)
    fun hu hi => hi.queuesWf hu

/-! ## Lines inside frames, queues inside lines (R69, R232) -/

/-- The two sequence invariants together. -/
def State.linesWf (s : State) : Prop := s.boundaryWf ∧ s.sequenceWf

/-- Inside a line nothing is said of the queues. -/
theorem linesWf_inside {s : State} (hline : s.lineActive = true) (hframe : s.frameActive = true) :
    s.linesWf :=
  ⟨fun h => absurd (h.symm.trans hline) Bool.false_ne_true, fun _ => hframe⟩

/-- Outside a line nothing is said of the frame. -/
theorem linesWf_outside {s : State} (hline : s.lineActive = false) (hqueues : s.queuesEmpty = true) :
    s.linesWf :=
  ⟨fun _ => hqueues, fun h => absurd (hline.symm.trans h) Bool.false_ne_true⟩

/-- A write whose preamble has passed is inside a line, so its effect may fill queues (R233). -/
theorem linesWf_of_written {px : Int} {check : Option FatalKind} {s u : State} (hs : s.linesWf)
    (hcheck : (writePre s px).or check = none) (hline : u.lineActive = s.lineActive)
    (hframe : u.frameActive = s.frameActive) : u.linesWf := by
  obtain ⟨hpre, -⟩ := Option.or_eq_none_iff.1 hcheck
  obtain ⟨hactive, -⟩ := writePre_eq_none.1 hpre
  exact linesWf_inside (hline.trans hactive) (hframe.trans (hs.2 hactive))

theorem linesWf_queueDiw {id : RegId} {v : Word} {px : Int} {s t : State} (hs : s.linesWf)
    (h : queueDiw id v px s = .next t) : t.linesWf :=
  checked_keeps h (fun _ => hs) fun hcheck => linesWf_of_written hs hcheck rfl rfl

/-- The check of a frame or line operation fails or its condition does not hold. -/
theorem ite_sequenceError_eq_none {cond : Bool} :
    (if cond then some FatalKind.sequenceError else none) = none ↔ cond = false := by
  cases cond <;> simp

/-- BOL opens a line where a frame is active; EOF ends a frame where no line is (R227, R229). -/
theorem linesWf_execBol {vpos : Word} {v d : Bool} {s t : State} (hs : s.linesWf)
    (h : execBol vpos v d s = .next t) : t.linesWf := by
  refine checked_keeps h (fun _ => hs) fun hcheck => linesWf_inside rfl ?_
  rw [beginLine_frameActive, ← Bool.not_eq_false]
  intro hframe
  simp [hframe] at hcheck

theorem linesWf_execEof {s t : State} (hs : s.linesWf) (h : execEof s = .next t) : t.linesWf := by
  refine checked_keeps h (fun _ => hs) fun hcheck => ?_
  have hline : s.lineActive = false := (Bool.or_eq_false_iff.1 (ite_sequenceError_eq_none.1 hcheck)).2
  exact linesWf_outside hline (hs.1 hline)

theorem linesWf_endLine (s : State) : s.endLine.linesWf :=
  linesWf_outside (endLine_lineActive s) (queuesEmpty_iff.2 (endLine_queues s))

theorem linesWf_afterReset (s : State) : s.afterReset.linesWf := by
  refine linesWf_outside ?_ (queuesEmpty_iff.2 (afterReset_queues s))
  unfold State.afterReset
  cases s.par.resetPolicy <;> rfl

/-- Only writes fill queues, and they do so inside a line; BOL opens a line inside a frame, and EOF ends
a frame outside a line. -/
theorem Performs.linesWf {s t : State} {i : Instr} (h : Performs s i (.next t)) (hs : s.linesWf) :
    t.linesWf := by
  generalize hr : (Host.Outcome.next t : Result) = r at h
  cases h with
  | window => exact linesWf_queueDiw hs hr.symm
  | sprite | color =>
    exact checked_keeps hr.symm (fun _ => hs) fun hc => linesWf_of_written hs hc rfl rfl
  | bplcon0 | bplcon2 =>
    exact checked_keeps hr.symm (fun _ => hs) fun hc =>
      linesWf_of_written hs hc (by rw [logDiagIf_eq]) (by rw [logDiagIf_eq])
  | bplcon3 v px =>
    obtain hignored | hqueued := execWBplcon3_or v px s
    · cases hr.trans hignored; exact hs
    · exact linesWf_queueDiw hs (hr.trans hqueued).symm
  | bpl1dat v px =>
    exact checked_keeps hr.symm (fun _ => hs) fun _ => by
      simpa [State.linesWf, State.boundaryWf, State.sequenceWf, State.queuesEmpty] using hs
  | bof => exact checked_keeps hr.symm (fun _ => hs) fun _ => ⟨hs.1, fun _ => rfl⟩
  | bol => exact linesWf_execBol hs hr.symm
  | eol => exact checked_keeps hr.symm (fun _ => hs) fun _ => linesWf_endLine s
  | eof => exact linesWf_execEof hs hr.symm
  | reset => cases hr; exact linesWf_afterReset s
  | bpldat | clxcon | bplcon1 | config => exact checked_keeps hr.symm (fun _ => hs) fun _ => hs
  | writeClxdat | writeOther | readClxdat | readOther => cases hr; exact hs
  | stable offset =>
    obtain ⟨_, hresponds⟩ := execStable_responds offset s
    cases hr.trans hresponds; exact hs

/-- Settles O14, meaning by meaning: the preamble and the sequence checks of R232 keep records inside
lines and lines inside frames, and EOL drains the queues as it ends the line. -/
theorem stepKeepsLineBoundaries : Obligations.StepKeepsLineBoundaries :=
  fun _ _ hs h => step_keeps_performs h hs (fun _ hu => hu) (fun _ _ hu => hu)
    fun hu hi => hi.linesWf hu

/-! ## The check for empty queues (R69) -/

/-- No error of the kind `QueueNotEmpty` has been raised. -/
def State.queuesFound (s : State) : Prop := s.fatal ≠ some .queueNotEmpty

/-- A checked operation raises the error of its check or leaves the fatal state to its effect. -/
theorem checked_queuesFound {check : Option FatalKind} {s u t : State}
    (h : checked check s u = .next t) (hcheck : check ≠ some .queueNotEmpty) (hu : u.fatal = none) :
    t.queuesFound := by
  obtain ⟨-, rfl⟩ | ⟨kind, hkind, rfl⟩ := checked_next h
  · simp [State.queuesFound, hu]
  · rwa [State.queuesFound, raiseFatal_fatal, ← hkind]

theorem writePre_ne_queueNotEmpty {s : State} {px : Int} : writePre s px ≠ some .queueNotEmpty := by
  unfold writePre
  split_ifs <;> simp

theorem queuedChecks_ne_queueNotEmpty {s : State} {px : Int} {cap : Nat} {qs : List ChangeQueue} :
    (writePre s px).or (overflowCheck cap qs) ≠ some .queueNotEmpty := by
  rw [ne_eq, Option.or_eq_some_iff, not_or]
  refine ⟨writePre_ne_queueNotEmpty, fun ⟨_, h⟩ => ?_⟩
  unfold overflowCheck at h
  split at h <;> simp at h

theorem ite_error_ne_queueNotEmpty {cond : Bool} {kind : FatalKind} (h : kind ≠ .queueNotEmpty) :
    (if cond then some kind else none) ≠ some FatalKind.queueNotEmpty := by
  cases cond <;> simp [h]

/-- Where a line may begin, the queues are empty (R69). -/
theorem bolCheck_ne_queueNotEmpty {s : State} (hs : s.boundaryWf) :
    (if !s.frameActive || s.lineActive then some .sequenceError
      else if s.queuesEmpty then none else some .queueNotEmpty) ≠ some FatalKind.queueNotEmpty := by
  split_ifs with hsequence hempty
  · simp
  · simp
  · simp only [Bool.or_eq_true, not_or, Bool.not_eq_true] at hsequence
    exact absurd (hs hsequence.2) hempty

/-- Only BOL makes the check for empty queues. -/
theorem Performs.queuesFound {s t : State} {i : Instr} (h : Performs s i (.next t)) (hs : s.boundaryWf)
    (hfatal : s.fatal = none) : t.queuesFound := by
  have hrunning : s.queuesFound := by simp [State.queuesFound, hfatal]
  generalize hr : (Host.Outcome.next t : Result) = r at h
  cases h with
  | window | sprite | color =>
    exact checked_queuesFound hr.symm queuedChecks_ne_queueNotEmpty hfatal
  | bplcon0 | bplcon2 =>
    exact checked_queuesFound hr.symm queuedChecks_ne_queueNotEmpty
      ((logDiagIf_fatal ..).trans hfatal)
  | bplcon3 v px =>
    obtain hignored | hqueued := execWBplcon3_or v px s
    · cases hr.trans hignored; exact hrunning
    · exact checked_queuesFound (hr.trans hqueued).symm queuedChecks_ne_queueNotEmpty hfatal
  | bpldat | clxcon | bplcon1 =>
    exact checked_queuesFound hr.symm writePre_ne_queueNotEmpty hfatal
  | bpl1dat =>
    exact checked_queuesFound hr.symm writePre_ne_queueNotEmpty
      ((loadAndDraw_fatal ..).trans hfatal)
  | bof | config => exact checked_queuesFound hr.symm (ite_error_ne_queueNotEmpty nofun) hfatal
  | bol => exact checked_queuesFound hr.symm (bolCheck_ne_queueNotEmpty hs) hfatal
  | eol =>
    exact checked_queuesFound hr.symm (ite_error_ne_queueNotEmpty nofun)
      ((endLine_fatal s).trans hfatal)
  | eof => exact checked_queuesFound hr.symm (ite_error_ne_queueNotEmpty nofun) hfatal
  | reset => cases hr; simp [State.queuesFound]
  | writeClxdat | writeOther | readClxdat | readOther => cases hr; exact hrunning
  | stable offset =>
    obtain ⟨_, hresponds⟩ := execStable_responds offset s
    cases hr.trans hresponds; exact hrunning

/-- Settles O15: the check is BOL's alone, behind the check that no line is active, and there the queues
are empty. -/
theorem queueNotEmptyNeverFires : Obligations.QueueNotEmptyNeverFires := by
  intro s t hs h
  obtain ⟨hfatal, rfl | ⟨why, rfl⟩ | ⟨i, hi⟩⟩ := step_next_performs h
  · simp [hfatal]
  · simp [hfatal]
  · exact hi.queuesFound hs hfatal

/-! ## The fatal state and the pause (R82, R245) -/

theorem step_fatal {s : State} {kind : FatalKind} (h : s.fatal = some kind) :
    step s = .fault (.runEnded kind) := by
  unfold step
  rw [h]

theorem step_pause {s : State} (hfatal : s.fatal = none) (hinput : s.input = []) :
    step s = .next s := by
  unfold step
  rw [hfatal, hinput]

/-- Settles O7, from the two branches of the step that perform nothing. -/
theorem fatalStateTakesNoStepAndPausesChangeNothing :
    Obligations.FatalStateTakesNoStepAndPausesChangeNothing :=
  ⟨fun _ _ => step_fatal, fun _ => step_pause⟩

end Sys2Proof.Machine
end

section
/-! The place of an inserted record (spec/20_memory.md R67), and the replay as a loop over the positions
of the line (R68, R71): what the registers are at a position, and what a part of the state that one
position alone writes ends as. -/

namespace Sys2Proof.Machine

/-! ## Insertion into a sorted queue (R67) -/

/-- Settles O11, by induction on the queue: a first record that is not later stays in front, and before a
later one everything is later. -/
theorem enqueueInsertsAfterEqualPixels : Obligations.EnqueueInsertsAfterEqualPixels := by
  intro c q hq
  induction q with
  | nil => rfl
  | cons x q ih =>
    obtain ⟨hx, hq⟩ := List.pairwise_cons.1 hq
    by_cases h : x.triggerPixel ≤ c.triggerPixel
    · rw [enqueue_of_le h, ih hq, List.filter_cons_of_pos (by simpa using h),
        List.filter_cons_of_neg (by simpa using h), List.cons_append]
    · have hlater : ∀ y ∈ x :: q, c.triggerPixel < y.triggerPixel :=
        List.forall_mem_cons.2 ⟨not_le.1 h, fun y hy => lt_of_lt_of_le (not_le.1 h) (hx y hy)⟩
      rw [enqueue_of_lt hlater, List.filter_eq_nil_iff.2 (by simpa using hlater),
        List.filter_eq_self.2 (by simpa using hlater), List.nil_append]

/-! ## One position of a replay (R68) -/

section Line

variable {σ : Type} {hpixels : Nat} {apply : σ → Change → σ} {pixel : σ → Nat → σ} {q : ChangeQueue}

/-- A change at the cursor is applied before the position is processed. -/
theorem replayFrom_change {c : Change} {st : σ} {p : Nat} (hc : c.triggerPixel ≤ p) :
    replayFrom hpixels apply pixel (c :: q) st p = replayFrom hpixels apply pixel q (apply st c) p := by
  have hend : runEnd hpixels c ≤ p := by unfold runEnd; omega
  rw [replayFrom, Nat.sub_eq_zero_of_le hend, pixelRun, Nat.max_eq_left hend]

/-- A position before every change is processed. -/
theorem replayFrom_pixel {st : σ} {p : Nat} (hq : ∀ c ∈ q, (p : Int) < c.triggerPixel)
    (hp : p < hpixels) :
    replayFrom hpixels apply pixel q st p = replayFrom hpixels apply pixel q (pixel st p) (p + 1) := by
  cases q with
  | nil =>
    rw [replayFrom, replayFrom, show hpixels - p = hpixels - (p + 1) + 1 by omega, pixelRun]
  | cons c q =>
    have hlater := hq c (List.mem_cons_self ..)
    have hend : p + 1 ≤ runEnd hpixels c := by unfold runEnd; omega
    rw [replayFrom, replayFrom, show runEnd hpixels c - p = runEnd hpixels c - (p + 1) + 1 by omega,
      pixelRun, Nat.max_eq_right hend, Nat.max_eq_right (Nat.le_of_succ_le hend)]

/-- At the end of the line only changes are left (R70). -/
theorem replayFrom_end {st : σ} (hq : ∀ c ∈ q, (hpixels : Int) ≤ c.triggerPixel) :
    replayFrom hpixels apply pixel q st hpixels = q.foldl apply st := by
  induction q generalizing st with
  | nil => simp [replayFrom, pixelRun]
  | cons c q ih =>
    have hend : runEnd hpixels c = hpixels := by
      have := hq c (List.mem_cons_self ..)
      unfold runEnd; omega
    rw [replayFrom, hend, Nat.sub_self, pixelRun, Nat.max_self,
      ih fun d hd => hq d (List.mem_cons_of_mem _ hd), List.foldl_cons]

/-- The changes of position `p`, in queue order. -/
def changesOn (q : ChangeQueue) (p : Nat) : ChangeQueue :=
  q.filter fun c => decide (c.triggerPixel = (p : Int))

/-- The changes past a line of `hpixels` positions. -/
def changesPast (q : ChangeQueue) (hpixels : Nat) : ChangeQueue :=
  q.filter fun c => decide ((hpixels : Int) ≤ c.triggerPixel)

/-- A sorted queue splits at any pixel. -/
theorem filter_before_append_from (hq : sortedQueue q) (n : Int) :
    (q.filter fun c => decide (c.triggerPixel < n)) ++ (q.filter fun c => decide (n ≤ c.triggerPixel)) =
      q := by
  induction q with
  | nil => rfl
  | cons c q ih =>
    obtain ⟨hc, hq⟩ := List.pairwise_cons.1 hq
    by_cases h : c.triggerPixel < n
    · rw [List.filter_cons_of_pos (by simpa using h), List.filter_cons_of_neg (by simpa using h),
        List.cons_append, ih hq]
    · have hfrom : ∀ d ∈ c :: q, n ≤ d.triggerPixel :=
        List.forall_mem_cons.2 ⟨not_lt.1 h, fun d hd => (not_lt.1 h).trans (hc d hd)⟩
      rw [List.filter_eq_nil_iff.2 (by simpa using hfrom), List.filter_eq_self.2 (by simpa using hfrom),
        List.nil_append]

/-- The changes from `p` on begin with those of `p`. -/
theorem changesPast_eq_append (hq : sortedQueue q) (p : Nat) :
    changesPast q p = changesOn q p ++ changesPast q (p + 1) := by
  have hsorted : sortedQueue (changesPast q p) := List.Pairwise.filter _ hq
  rw [← filter_before_append_from hsorted (p + 1), changesPast, changesPast, changesOn,
    List.filter_filter, List.filter_filter]
  congr 1 <;> exact List.filter_congr fun c _ => by
    rw [← Bool.decide_and, decide_eq_decide]; omega

/-- One position of the line: its changes, then the position itself. -/
def lineStep (apply : σ → Change → σ) (pixel : σ → Nat → σ) (q : ChangeQueue) (st : σ) (p : Nat) : σ :=
  pixel ((changesOn q p).foldl apply st) p

/-- The state when the positions below `n` have been processed. -/
def lineTo (apply : σ → Change → σ) (pixel : σ → Nat → σ) (q : ChangeQueue) (st : σ) (n : Nat) : σ :=
  (List.range n).foldl (lineStep apply pixel q) st

@[simp] theorem lineTo_zero (st : σ) : lineTo apply pixel q st 0 = st := rfl

theorem lineTo_succ (st : σ) (n : Nat) :
    lineTo apply pixel q st (n + 1) = lineStep apply pixel q (lineTo apply pixel q st n) n := by
  simp [lineTo, List.range_succ]

theorem replayFrom_changes {l : ChangeQueue} {st : σ} {p : Nat} (hl : ∀ c ∈ l, c.triggerPixel ≤ p) :
    replayFrom hpixels apply pixel (l ++ q) st p =
      replayFrom hpixels apply pixel q (l.foldl apply st) p := by
  induction l generalizing st with
  | nil => rfl
  | cons c l ih =>
    obtain ⟨hc, hl⟩ := List.forall_mem_cons.1 hl
    rw [List.cons_append, replayFrom_change hc, ih hl, List.foldl_cons]

/-- A replay that stands at position `p`, with the changes before it gone, stands one position on after
the changes of `p` and `p` itself. -/
theorem replayFrom_lineStep (hsorted : sortedQueue q) {st : σ} {p : Nat} (hp : p < hpixels) :
    replayFrom hpixels apply pixel (changesPast q p) st p =
      replayFrom hpixels apply pixel (changesPast q (p + 1)) (lineStep apply pixel q st p) (p + 1) := by
  have hdue : ∀ c ∈ changesOn q p, c.triggerPixel ≤ (p : Int) := fun c hc =>
    (show c.triggerPixel = p by simpa using List.of_mem_filter hc).le
  have hlater : ∀ c ∈ changesPast q (p + 1), (p : Int) < c.triggerPixel := fun c hc =>
    Int.lt_iff_add_one_le.2 (by simpa using List.of_mem_filter hc)
  rw [changesPast_eq_append hsorted, replayFrom_changes hdue, replayFrom_pixel hlater hp, lineStep]

/-- A replay is the loop over the positions, and then the changes past the line. -/
theorem replay_eq_lineTo (hq : replayable q) (st : σ) :
    replay hpixels apply pixel q st =
      (changesPast q hpixels).foldl apply (lineTo apply pixel q st hpixels) := by
  obtain ⟨hsorted, hpos⟩ := hq
  have hloop : ∀ n ≤ hpixels, replay hpixels apply pixel q st =
      replayFrom hpixels apply pixel (changesPast q n) (lineTo apply pixel q st n) n := by
    intro n hn
    induction n with
    | zero =>
      have hall : changesPast q 0 = q := List.filter_eq_self.2 (by simpa using hpos)
      rw [hall, lineTo_zero, replay]
    | succ n ih => rw [ih (Nat.le_of_succ_le hn), replayFrom_lineStep hsorted hn, lineTo_succ]
  rw [hloop hpixels le_rfl, replayFrom_end fun c hc => by simpa using List.of_mem_filter hc]

/-! ## The registers at a position, and what a position writes (R71) -/

/-- The state right before position `p` is processed: its changes have been applied. -/
def lineBefore (apply : σ → Change → σ) (pixel : σ → Nat → σ) (q : ChangeQueue) (st : σ) (p : Nat) : σ :=
  (changesOn q p).foldl apply (lineTo apply pixel q st p)

theorem lineTo_succ_eq_pixel (st : σ) (p : Nat) :
    lineTo apply pixel q st (p + 1) = pixel (lineBefore apply pixel q st p) p := lineTo_succ st p

/-- The changes whose trigger pixel is at most `p`. -/
def changesUpTo (q : ChangeQueue) (p : Nat) : ChangeQueue :=
  q.filter fun c => decide (c.triggerPixel ≤ (p : Int))

/-- The changes up to `n` end with those of `n`. -/
theorem changesUpTo_eq_append (hq : sortedQueue q) (n : Nat) :
    changesUpTo q n = (q.filter fun c => decide (c.triggerPixel < (n : Int))) ++ changesOn q n := by
  have hsorted : sortedQueue (changesUpTo q n) := List.Pairwise.filter _ hq
  rw [← filter_before_append_from hsorted n, changesUpTo, changesOn, List.filter_filter,
    List.filter_filter]
  congr 1 <;> exact List.filter_congr fun c _ => by
    rw [← Bool.decide_and, decide_eq_decide]; omega

/-- A part of the state that no position changes is at a position as the changes before it leave it. -/
theorem lineTo_part {τ : Type} (f : σ → τ) (g : τ → Change → τ) (hq : replayable q) (st : σ)
    (happly : ∀ x c, f (apply x c) = g (f x) c) (hpixel : ∀ x p, f (pixel x p) = f x) (n : Nat) :
    f (lineTo apply pixel q st n) =
      (q.filter fun c => decide (c.triggerPixel < (n : Int))).foldl g (f st) := by
  obtain ⟨hsorted, hpos⟩ := hq
  induction n with
  | zero =>
    rw [List.filter_eq_nil_iff.2 (by simpa using hpos)]
    rfl
  | succ n ih =>
    rw [lineTo_succ, lineStep, hpixel, ← List.foldl_hom f fun x c => (happly x c).symm, ih,
      ← List.foldl_append, ← changesUpTo_eq_append hsorted n, changesUpTo]
    congr 1
    exact List.filter_congr fun c _ => by rw [decide_eq_decide]; omega

/-- The registers of a replay at position `p` are as the changes up to `p` leave them (R71). -/
theorem lineBefore_part {τ : Type} (f : σ → τ) (g : τ → Change → τ) (hq : replayable q) (st : σ)
    (happly : ∀ x c, f (apply x c) = g (f x) c) (hpixel : ∀ x p, f (pixel x p) = f x) (p : Nat) :
    f (lineBefore apply pixel q st p) = (changesUpTo q p).foldl g (f st) := by
  rw [lineBefore, ← List.foldl_hom f fun x c => (happly x c).symm,
    lineTo_part f g hq st happly hpixel, ← List.foldl_append,
    ← changesUpTo_eq_append hq.1]

/-- A register that its own records set and no position changes has at position `p` the value of R71. -/
theorem lineBefore_valueAt (f : σ → Word) (id : RegId) (hq : replayable q) (st : σ)
    (happly : ∀ x c, f (apply x c) = if c.registerId = id then c.value else f x)
    (hpixel : ∀ x p, f (pixel x p) = f x) (p : Nat) :
    f (lineBefore apply pixel q st p) = valueAt q id (f st) p := by
  rw [lineBefore_part f (fun v c => if c.registerId = id then c.value else v) hq st happly hpixel]
  exact foldl_valueAt (fun v => v) _ id (fun _ _ => rfl) q (f st) p

/-- What every change and every position keeps holds right before a position. -/
theorem lineBefore_keeps {P : σ → Prop} {st : σ} (happly : ∀ x c, P x → P (apply x c))
    (hpixel : ∀ x p, P x → P (pixel x p)) (h : P st) (p : Nat) :
    P (lineBefore apply pixel q st p) :=
  foldl_keeps happly (foldl_keeps (fun _ _ hx => hpixel _ _ (foldl_keeps happly hx)) h)

/-- What no change touches, the changes of a position leave. -/
theorem foldl_apply_part {τ : Type} (f : σ → τ) (happly : ∀ x c, f (apply x c) = f x)
    (l : ChangeQueue) (x : σ) : f (l.foldl apply x) = f x :=
  foldl_keeps (P := fun y => f y = f x) (fun y c hy => (happly y c).trans hy) rfl

/-- A part of the state that only position `p` writes is untouched when `p` is processed. -/
theorem lineBefore_untouched {τ : Type} (f : σ → τ) (st : σ) (p : Nat)
    (happly : ∀ x c, f (apply x c) = f x) (hpixel : ∀ x p', p' ≠ p → f (pixel x p') = f x) :
    f (lineBefore apply pixel q st p) = f st := by
  have hto : ∀ n ≤ p, f (lineTo apply pixel q st n) = f st := by
    intro n hn
    induction n with
    | zero => rfl
    | succ n ih =>
      rw [lineTo_succ_eq_pixel, hpixel _ _ (by omega), lineBefore, foldl_apply_part f happly,
        ih (by omega)]
  rw [lineBefore, foldl_apply_part f happly, hto p le_rfl]

/-- A part of the state that only position `p` writes ends as `p` leaves it. -/
theorem replay_written {τ : Type} (f : σ → τ) (hq : replayable q) (st : σ) {p : Nat} (hp : p < hpixels)
    (happly : ∀ x c, f (apply x c) = f x) (hpixel : ∀ x p', p' ≠ p → f (pixel x p') = f x) :
    f (replay hpixels apply pixel q st) = f (pixel (lineBefore apply pixel q st p) p) := by
  have hto : ∀ n, p + 1 ≤ n → f (lineTo apply pixel q st n) =
      f (pixel (lineBefore apply pixel q st p) p) := by
    intro n hn
    induction n, hn using Nat.le_induction with
    | base => rw [lineTo_succ_eq_pixel]
    | succ n hn ih =>
      rw [lineTo_succ_eq_pixel, hpixel _ _ (by omega), lineBefore, foldl_apply_part f happly, ih]
  rw [replay_eq_lineTo hq, foldl_apply_part f happly, hto _ hp]

/-- A part of the state that the changes leave ends as the positions leave it. -/
theorem replay_lineTo {τ : Type} (f : σ → τ) (hq : replayable q) (st : σ)
    (happly : ∀ x c, f (apply x c) = f x) :
    f (replay hpixels apply pixel q st) = f (lineTo apply pixel q st hpixels) := by
  rw [replay_eq_lineTo hq, foldl_apply_part f happly]

end Line

/-- Settles O12: the loop over the positions is the fold of `lineStep`. -/
theorem replayAppliesEachChangeAtItsPixel : Obligations.ReplayAppliesEachChangeAtItsPixel :=
  fun _ _ _ _ _ st hsorted hpos => replay_eq_lineTo ⟨hsorted, hpos⟩ st

end Sys2Proof.Machine
end

section
/-! Sprite register writes (spec/42_sprites_collision.md R151 to R154), the read of `CLXDAT` (R166), the
ring of frame buffers as readers see it (spec/20_memory.md R73, R74, R84; spec/44_line_frame_control.md
R230), and the end of a line (R228, spec/43_color_framebuffer.md R204). -/

namespace Sys2Proof.Machine

/-! ## Sprite register writes (R151 to R154) -/

theorem exec_sprPosWrite (x : Fin 8) (v : Word) (px : Int) (s : State) :
    exec (sprPosWrite x v px) s = queueSprite x (.sprPos x) v px s := by fin_cases x <;> rfl

theorem exec_sprCtlWrite (x : Fin 8) (v : Word) (px : Int) (s : State) :
    exec (sprCtlWrite x v px) s = queueSprite x (.sprCtl x) v px s := by fin_cases x <;> rfl

theorem exec_sprDataWrite (x : Fin 8) (v : Word) (px : Int) (s : State) :
    exec (sprDataWrite x v px) s = queueSprite x (.sprData x) v px s := by fin_cases x <;> rfl

theorem exec_sprDatbWrite (x : Fin 8) (v : Word) (px : Int) (s : State) :
    exec (sprDatbWrite x v px) s = queueSprite x (.sprDatb x) v px s := by fin_cases x <;> rfl

/-- Settles O31, from the one meaning that all sprite register writes share. -/
theorem spriteRegisterWritesAreQueued : Obligations.SpriteRegisterWritesAreQueued :=
  fun x v px s =>
    ⟨queuedWrite_of_checked (exec_sprPosWrite x v px s),
      queuedWrite_of_checked (exec_sprCtlWrite x v px s),
      queuedWrite_of_checked (exec_sprDataWrite x v px s),
      queuedWrite_of_checked (exec_sprDatbWrite x v px s)⟩

/-! ## The read of `CLXDAT` (R166) -/

/-- What a read tells the host, and what it clears. -/
theorem exec_rClxdat (s : State) :
    exec .rClxdat s = .next { s with
      clxdat := 0, responses := s.responses ++ [.value (0x8000#16 ||| s.clxdat.setWidth 16)] } := rfl

theorem exec_rClxdat_cleared {s : State} (h : s.clxdat = 0) :
    exec .rClxdat s = .next { s with responses := s.responses ++ [.value 0x8000#16] } := by
  have hnone : 0x8000#16 ||| s.clxdat.setWidth 16 = 0x8000#16 := by rw [h]; decide
  rw [exec_rClxdat, hnone, ← h]

/-- Settles O39: the first read leaves no bit for the second. -/
theorem readClxdatClearsIt : Obligations.ReadClxdatClearsIt :=
  fun s => ⟨exec_rClxdat s, exec_rClxdat_cleared rfl⟩

/-! ## The ring of frame buffers (R74, R230) -/

/-- The stable buffer with offset `k` lies `k + 1` places before the write target (R74). -/
theorem stableIndex_ring {nFb w k : Nat} (hk : k + 2 ≤ nFb) (hw : w < nFb) :
    stableIndex nFb w k < nFb ∧ stableIndex nFb w k ≠ w ∧ (stableIndex nFb w k + 1 + k) % nFb = w := by
  unfold stableIndex
  obtain hbefore | hwrap := Nat.lt_or_ge k w
  · rw [show w + nFb - 1 - k = w - (k + 1) + nFb by omega, Nat.add_mod_right,
      Nat.mod_eq_of_lt (by omega)]
    exact ⟨by omega, by omega, by rw [show w - (k + 1) + 1 + k = w by omega, Nat.mod_eq_of_lt hw]⟩
  · rw [Nat.mod_eq_of_lt (by omega)]
    exact ⟨by omega, by omega, by
      rw [show w + nFb - 1 - k + 1 + k = w + nFb by omega, Nat.add_mod_right, Nat.mod_eq_of_lt hw]⟩

/-- Settles O57, branch by branch of R230. -/
theorem stableReturnsASnapshot : Obligations.StableReturnsASnapshot := by
  refine fun s offset => ⟨fun hring hframes hindex => ?_, fun hrefused => ?_⟩
  · obtain ⟨hlt, hne, hback⟩ := stableIndex_ring hring hindex
    exact ⟨_, hlt, hne, hback, if_pos ⟨hring, hframes⟩⟩
  · exact if_neg (by omega)

/-! ## The cells that a line is written into (R73, R204) -/

/-- A write to a buffer changes its cells and no tag, if the buffer is there at all. -/
theorem bufferAt_set_cells (fb : List FrameBuffer) (b b' : Nat) (m : Memory) :
    bufferAt (fb.set b { bufferAt fb b with cells := m }) b' =
      { bufferAt fb b' with
        cells := if b' = b ∧ b < fb.length then m else (bufferAt fb b').cells } := by
  rw [bufferAt_set]
  split
  case isTrue h => rw [h.1]
  case isFalse => rfl

/-- What the cell write of R73 leaves at each cell of a canonical store. -/
theorem read_fbWrite {par : Params} {fb : List FrameBuffer} {b row col : Nat} {c : Cell}
    (hwf : ∀ f ∈ fb, f.cells.wf = true) (hb : b < fb.length) (b' row' col' : Nat) :
    (bufferAt (fbWrite par fb b row col c) b').cells.read row' col' =
      if b' = b ∧ row' = row ∧ col' = col ∧ row < par.vpixels ∧ col < par.hpixels then c
      else (bufferAt fb b').cells.read row' col' := by
  unfold fbWrite
  split
  case isFalse hdropped => rw [if_neg fun ⟨_, _, _, h⟩ => hdropped h]
  case isTrue hinside =>
    rw [bufferAt_set_cells]
    dsimp only
    by_cases hcell : b' = b ∧ row' = row ∧ col' = col
    · obtain ⟨rfl, rfl, rfl⟩ := hcell
      rw [if_pos ⟨rfl, hb⟩, if_pos ⟨rfl, rfl, rfl, hinside⟩]
      exact Memory.read_write_self (bufferAt_wf hwf _)
    · rw [if_neg (c := b' = b ∧ row' = row ∧ col' = col ∧ _) fun ⟨hbuffer, hrow, hcol, _⟩ =>
        hcell ⟨hbuffer, hrow, hcol⟩]
      split
      case isTrue hbuffer =>
        obtain ⟨rfl, -⟩ := hbuffer
        exact Memory.read_write_of_ne (bufferAt_wf hwf _)
          (not_and_or.1 fun h => hcell ⟨rfl, h⟩)
      case isFalse => rfl

/-- The frame buffers when the columns below `n` of a line have been written into row `row`. -/
def writtenTo (par : Params) (fb : List FrameBuffer) (b row : Nat) (line : List Cell) (n : Nat) :
    List FrameBuffer :=
  (List.range n).foldl (fun fb p => fbWrite par fb b row p (line.getD p Cell.reset)) fb

theorem writeLine_fb (s : State) (line : List Cell) :
    (s.writeLine line).fb = writtenTo s.par s.fb s.writeIndex s.curVpos.toNat line s.par.hpixels := rfl

section WrittenTo

variable (par : Params) (fb : List FrameBuffer) (b row : Nat) (line : List Cell) (n : Nat)

theorem writtenTo_succ :
    writtenTo par fb b row line (n + 1) =
      fbWrite par (writtenTo par fb b row line n) b row n (line.getD n Cell.reset) := by
  simp [writtenTo, List.range_succ]

@[simp] theorem length_writtenTo : (writtenTo par fb b row line n).length = fb.length :=
  foldl_keeps (P := fun fb' : List FrameBuffer => fb'.length = fb.length)
    (fun _ _ h => (length_fbWrite ..).trans h) rfl

theorem writtenTo_wf {fb : List FrameBuffer} (hwf : ∀ f ∈ fb, f.cells.wf = true) :
    ∀ f ∈ writtenTo par fb b row line n, f.cells.wf = true :=
  foldl_keeps (P := fun fb' : List FrameBuffer => ∀ f ∈ fb', f.cells.wf = true)
    (fun _ _ h => fbWrite_wf h) hwf

/-- Writing a line keeps the tags of every buffer, in any form. -/
theorem bufferAt_writtenTo (b' : Nat) :
    bufferAt (writtenTo par fb b row line n) b' =
      { bufferAt fb b' with cells := (bufferAt (writtenTo par fb b row line n) b').cells } := by
  refine foldl_keeps (P := fun fb' : List FrameBuffer =>
    bufferAt fb' b' = { bufferAt fb b' with cells := (bufferAt fb' b').cells }) (fun fb' p h => ?_) rfl
  unfold fbWrite
  split
  · rw [bufferAt_set_cells, h]
  · exact h

/-- Writing a line leaves the other buffers as they were. -/
theorem bufferAt_writtenTo_of_ne {b' : Nat} (h : b' ≠ b) :
    bufferAt (writtenTo par fb b row line n) b' = bufferAt fb b' :=
  foldl_keeps (P := fun fb' : List FrameBuffer => bufferAt fb' b' = bufferAt fb b')
    (fun _ _ hfb => (bufferAt_fbWrite_of_ne h).trans hfb) rfl

/-- A line for a row past the buffer is dropped (R73). -/
theorem writtenTo_dropped (h : par.vpixels ≤ row) : writtenTo par fb b row line n = fb := by
  refine foldl_keeps (P := fun fb' : List FrameBuffer => fb' = fb) (fun fb' p hfb => ?_) rfl
  rw [fbWrite, if_neg (by omega), hfb]

/-- The cells of a canonical store when a part of a line has been written. -/
theorem read_writtenTo {fb : List FrameBuffer} (hwf : ∀ f ∈ fb, f.cells.wf = true) (hb : b < fb.length)
    (b' row' col' : Nat) :
    (bufferAt (writtenTo par fb b row line n) b').cells.read row' col' =
      if b' = b ∧ row' = row ∧ col' < n ∧ row < par.vpixels ∧ col' < par.hpixels then
        line.getD col' Cell.reset
      else (bufferAt fb b').cells.read row' col' := by
  induction n with
  | zero => rw [if_neg (by omega)]; rfl
  | succ n ih =>
    rw [writtenTo_succ, read_fbWrite (writtenTo_wf _ _ _ _ _ hwf) (by simpa using hb), ih]
    by_cases hcol : col' = n
    · subst hcol
      rw [if_neg (c := _ ∧ _ ∧ col' < col' ∧ _) (by omega)]
      congr 1
      exact propext (by omega)
    · rw [if_neg (by omega)]
      congr 1
      exact propext (by omega)

end WrittenTo

/-! ## The end of a line (R228) -/

/-- The state before the colorizer: after the passes that R228 puts before it. -/
def State.beforeOutput (s : State) : State := s.translate.spriteLines.collide.borderFill

/-- The line that is written: colorized and hidden (R196, R201). -/
def State.outputCells (s : State) : List Cell := s.beforeOutput.hidePass s.beforeOutput.colorRun.line

theorem endLine_fb (s : State) :
    s.endLine.fb =
      writtenTo s.par s.fb s.writeIndex s.curVpos.toNat s.outputCells s.par.hpixels := by
  refine (writeLine_fb { s.beforeOutput with col := s.beforeOutput.colorRun.col, qCol := [] }
    s.outputCells).trans ?_
  simp [State.beforeOutput]

/-- The cells of a canonical store after the end of a line (R204). -/
theorem cellAt_endLine {s : State} (hs : s.storeWf) (b row col : Nat) :
    s.endLine.cellAt b row col =
      if b = s.writeIndex ∧ row = s.curVpos.toNat ∧ row < s.par.vpixels ∧ col < s.par.hpixels then
        s.outputCells.getD col Cell.reset
      else s.cellAt b row col := by
  obtain ⟨hlength, hindex, hwf⟩ := hs
  rw [State.cellAt, endLine_fb, read_writtenTo _ _ _ _ _ hwf (hlength ▸ hindex)]
  congr 1
  exact propext (by omega)

/-- No pass of a line end writes raw bits (R138, R228). -/
theorem endLine_rawBits (s : State) : s.endLine.buf.rawBits = s.buf.rawBits := by
  have htranslate : s.translate.buf.rawBits = s.buf.rawBits :=
    replay_keeps (P := fun x : TranslateState => x.buf.rawBits = s.buf.rawBits) (fun _ _ _ hx => hx)
      (fun _ _ hx => hx) rfl
  have hsprite : ∀ (u : State) (k : Fin 4), (u.spriteLine k).buf.rawBits = u.buf.rawBits := fun u k =>
    replay_keeps (P := fun x : SpriteState => x.buf.rawBits = u.buf.rawBits) (fun _ _ _ hx => hx)
      (fun _ _ hx => hx) rfl
  have hborder : ∀ u : State, u.borderFill.buf.rawBits = u.buf.rawBits := fun u =>
    replay_keeps (P := fun x : BorderState => x.buf.rawBits = u.buf.rawBits) (fun _ _ _ hx => hx)
      (fun _ _ hx => hx) rfl
  simp [State.endLine, State.spriteLines, hborder, hsprite, htranslate]

/-- What the end of a line may change, and that it ends the line (R228). -/
theorem endLine_frame (s : State) :
    s.endLine = { s with
      clxdat := s.endLine.clxdat, ctrl := s.endLine.ctrl, spr := s.endLine.spr, diw := s.endLine.diw
      col := s.endLine.col, qCtrl := s.endLine.qCtrl, qSpr := s.endLine.qSpr, qDiw := s.endLine.qDiw
      qCol := s.endLine.qCol, buf := s.endLine.buf, fb := s.endLine.fb, lineActive := false } := by
  ext1 <;> simp

theorem exec_eol_error {s : State} {vpos : Word} (h : s.lineActive = false ∨ vpos ≠ s.curVpos) :
    exec (.eol vpos) s = .next (s.raiseFatal .sequenceError) :=
  checked_some (if_pos (by simpa using h))

theorem exec_eol {s : State} {vpos : Word} (hline : s.lineActive = true) (hvpos : vpos = s.curVpos) :
    exec (.eol vpos) s = .next s.endLine :=
  checked_none (if_neg (by simp [hline, hvpos]))

/-- Settles O54: the passes are replays that empty their queues, and the output writes into one row of
one buffer. -/
theorem linesEndWithDrainedQueues : Obligations.LinesEndWithDrainedQueues := by
  refine fun s vpos => ⟨exec_eol_error, fun hline hvpos => ⟨s.endLine, exec_eol hline hvpos,
    endLine_queues s, endLine_frame s, endLine_rawBits s, ?_, fun b => ?_, fun hs b row col hcell => ?_⟩⟩
  · rw [endLine_fb, length_writtenTo]
  · rw [endLine_fb, bufferAt_writtenTo]
    exact ⟨rfl, rfl, rfl⟩
  · rw [cellAt_endLine hs, if_neg hcell]

/-! ## The written line (R196, R201, R204) -/

theorem colorPixel_length (chip : Chip) (lut : Vector Device 4096) (buf : LineBufs) (x : ColorState)
    (p : Nat) : (colorPixel chip lut buf x p).line.length = x.line.length := by
  unfold colorPixel
  cases colorMode chip x.col.bplcon0 <;> simp

@[simp] theorem length_colorRun (s : State) : s.colorRun.line.length = s.par.hpixels :=
  replay_keeps (P := fun x : ColorState => x.line.length = s.par.hpixels) (fun _ _ _ hx => hx)
    (fun x p hx => (colorPixel_length _ _ _ x p).trans hx) List.length_replicate

theorem length_hideFrom (config : Config) (vpos : Word) (buf : LineBufs) (p : Nat) (line : List Cell) :
    (hideFrom config vpos buf p line).length = line.length := by
  induction line generalizing p with
  | nil => rfl
  | cons c line ih => rw [hideFrom, List.length_cons, ih, List.length_cons]

@[simp] theorem length_hidePass (s : State) (line : List Cell) :
    (s.hidePass line).length = line.length := by
  unfold State.hidePass
  split
  · rfl
  · exact length_hideFrom ..

/-- The written line covers the positions of the line (R204). -/
theorem length_outputCells (s : State) : s.outputCells.length = s.par.hpixels := by
  simp [State.outputCells, State.beforeOutput]

/-- Settles O55: the cells of the row are read back from the written line. -/
theorem linesEndByWritingTheirRow : Obligations.LinesEndByWritingTheirRow := by
  intro s vpos hline hvpos hs
  refine ⟨s.endLine, exec_eol hline hvpos, rfl, rfl, rfl, rfl, rfl, length_outputCells s,
    fun hrow p hp => ?_, fun hrow => ?_⟩
  · have hlength : p < s.outputCells.length := (length_outputCells s).symm ▸ hp
    rw [cellAt_endLine hs, if_pos ⟨rfl, by rw [hvpos], hrow, hp⟩, List.getD_eq_getElem _ _ hlength]
    exact List.getElem?_eq_getElem hlength
  · rw [endLine_fb, writtenTo_dropped _ _ _ _ _ _ (hvpos ▸ hrow)]

/-! ## Stable buffers (R73, R74, R84) -/

/-- What an effect other than RESET leaves of the frame store. -/
theorem Effect.stable_buffers {i : Instr} {s t : State} (he : Effect s i t) (hreset : i ≠ .reset)
    {b : Nat} (hb : b ≠ s.writeIndex) : bufferAt t.fb b = bufferAt s.fb b := by
  cases he with
  | bpl1dat => rw [loadAndDraw_fb]
  | reset => exact absurd rfl hreset
  | eol => rw [endLine_fb, bufferAt_writtenTo_of_ne _ _ _ _ _ _ hb]
  | eof => exact (bufferAt_set ..).trans (if_neg fun h => hb h.1)
  | _ => rfl

/-- Only RESET and EOF move the write target and count frames (R207, R225). -/
theorem Effect.writeTarget_eq {i : Instr} {s t : State} (he : Effect s i t) (hreset : i ≠ .reset)
    (heof : i ≠ .eof) : t.writeIndex = s.writeIndex ∧ t.frameCounter = s.frameCounter := by
  cases he with
  | bpl1dat => simp
  | reset => exact absurd rfl hreset
  | eol => simp
  | eof => exact absurd rfl heof
  | _ => exact ⟨rfl, rfl⟩

/-- The end of a frame sets the tags of a buffer and keeps its cells (R207). -/
theorem cellAt_rotate (s : State) (b row col : Nat) : s.rotate.cellAt b row col = s.cellAt b row col := by
  unfold State.cellAt State.rotate
  rw [bufferAt_set]
  split
  case isTrue h => rw [h.1]
  case isFalse => rfl

/-- Only EOL writes cells, and RESET makes them anew (R204, R225). -/
theorem Effect.cellAt_eq {i : Instr} {s t : State} (he : Effect s i t) (hreset : i ≠ .reset)
    (heol : ∀ vpos, i ≠ .eol vpos) (b row col : Nat) : t.cellAt b row col = s.cellAt b row col := by
  cases he with
  | bpl1dat => simp [State.cellAt]
  | reset => exact absurd rfl hreset
  | eol vpos => exact absurd rfl (heol vpos)
  | eof => exact cellAt_rotate s b row col
  | _ => rfl

/-- Settles O58, by the effects one by one. -/
theorem stableBuffersNeverChange : Obligations.StableBuffersNeverChange :=
  fun _ _ _ h hreset => ⟨fun _ => (exec_effect h).stable_buffers hreset,
    (exec_effect h).writeTarget_eq hreset, (exec_effect h).cellAt_eq hreset⟩

end Sys2Proof.Machine
end

section
/-! The translator and the border fill at each position of a line, with the registers as they are there
(spec/20_memory.md R71, spec/41_playfield_translator.md R131, R132, R141,
spec/43_color_framebuffer.md R191 to R195). -/

namespace Sys2Proof.Machine

/-! ## Reading a scanline buffer back -/

theorem pixelAt_setPixel_self {w : Nat} {b : List (BitVec w)} {p : Nat} {v : BitVec w}
    (h : p < b.length) : pixelAt (setPixel b p v) p = v := by
  rw [pixelAt_setPixel, if_pos ⟨rfl, h⟩]

theorem pixelAt_setPixel_of_ne {w : Nat} {b : List (BitVec w)} {p q : Nat} {v : BitVec w}
    (h : p ≠ q) : pixelAt (setPixel b p v) q = pixelAt b q := by
  rw [pixelAt_setPixel, if_neg fun hq => h hq.1.symm]

/-- Buffers of one length are equal if they are equal at every position. -/
theorem buffer_ext {w n : Nat} {b b' : List (BitVec w)} (hb : b.length = n) (hb' : b'.length = n)
    (h : ∀ p < n, pixelAt b p = pixelAt b' p) : b = b' := by
  refine List.ext_getElem (hb.trans hb'.symm) fun p hp hp' => ?_
  have := h p (hb ▸ hp)
  rwa [pixelAt, pixelAt, List.getD_eq_getElem _ _ hp, List.getD_eq_getElem _ _ hp'] at this

/-! ## The translator (R131, R132) -/

theorem applyCtrlRegs_bplcon2 (st : Ctrl) (c : Change) :
    (applyCtrlRegs st c).bplcon2 = if c.registerId = .bplcon2 then c.value else st.bplcon2 := by
  unfold applyCtrlRegs
  cases c.registerId <;> rfl

/-- The translator's registers at position `p` (R71, R121). -/
def State.ctrlAt (s : State) (p : Nat) : Ctrl where
  bplcon0 := valueAt s.qCtrl .bplcon0 s.ctrl.bplcon0 p
  bplcon2 := valueAt s.qCtrl .bplcon2 s.ctrl.bplcon2 p

/-- What the translator works on right before position `p`. -/
def State.translateBefore (s : State) (p : Nat) : TranslateState :=
  lineBefore applyCtrl (translatePixel s.par.chip) s.qCtrl { ctrl := s.ctrl, buf := s.buf } p

theorem translateBefore_ctrl {s : State} (hq : replayable s.qCtrl) (p : Nat) :
    (s.translateBefore p).ctrl = s.ctrlAt p := by
  have hregister : ∀ (f : Ctrl → Word) (id : RegId),
      (∀ st c, f (applyCtrlRegs st c) = if c.registerId = id then c.value else f st) →
      f (s.translateBefore p).ctrl = valueAt s.qCtrl id (f s.ctrl) p := fun f id happly => by
    refine lineBefore_valueAt (fun x : TranslateState => f x.ctrl) id hq _ (fun _ _ => ?_)
      (fun _ _ => ?_) p
    · exact happly ..
    · rfl
  exact Ctrl.ext (hregister Ctrl.bplcon0 .bplcon0 applyCtrlRegs_bplcon0)
    (hregister Ctrl.bplcon2 .bplcon2 applyCtrlRegs_bplcon2)

theorem translateBefore_rawBits (s : State) (p : Nat) :
    (s.translateBefore p).buf.rawBits = s.buf.rawBits :=
  lineBefore_untouched (fun x : TranslateState => x.buf.rawBits) _ p (fun _ _ => rfl) fun _ _ _ => rfl

theorem translateBefore_hasLength {s : State} (hs : s.buffersWf) (p : Nat) :
    (s.translateBefore p).buf.hasLength s.par.hpixels := by
  refine lineBefore_keeps (P := fun x : TranslateState => x.buf.hasLength s.par.hpixels)
    (fun _ _ hx => ?_) (fun _ _ hx => ?_) ?_ p
  · exact hx
  · exact translatePixel_hasLength _ _ _ _ hx
  · exact hs

/-- What a line buffer holds of position `p` for the translator. -/
def translatedAt (buf : LineBufs) (p : Nat) : Translated × BitVec 7 :=
  ((pixelAt buf.colorIndex p, pixelAt buf.depthTag p), pixelAt buf.multiplexedIndex p)

/-- Every position is translated with the registers at it (R131). -/
theorem translatedAt_translate {s : State} (hs : s.buffersWf) (hq : replayable s.qCtrl) {p : Nat}
    (hp : p < s.par.hpixels) :
    translatedAt s.translate.buf p =
      (translateRaw s.par.chip (s.ctrlAt p) (pixelAt s.buf.rawBits p),
        (translateRaw s.par.chip (s.ctrlAt p) (pixelAt s.buf.rawBits p)).1.setWidth 7) := by
  have hwritten : translatedAt s.translate.buf p =
      translatedAt (translatePixel s.par.chip (s.translateBefore p) p).buf p :=
    replay_written (fun x : TranslateState => translatedAt x.buf p) hq _ hp (fun _ _ => rfl)
      fun x p' hne => by
        simp only [translatedAt, translatePixel, pixelAt_setPixel_of_ne hne]
  obtain ⟨-, -, hcolor, hmux, hdepth⟩ := translateBefore_hasLength hs p
  rw [hwritten, translatePixel, translatedAt, pixelAt_setPixel_self (hcolor ▸ hp),
    pixelAt_setPixel_self (hdepth ▸ hp), pixelAt_setPixel_self (hmux ▸ hp), translateBefore_ctrl hq,
    translateBefore_rawBits]

theorem ctrlAt_of_nil {s : State} (h : s.qCtrl = []) (p : Nat) : s.ctrlAt p = s.ctrl := by
  simp [State.ctrlAt, h]

/-- In single-playfield mode a pixel that the quirk spares keeps its color index (R133, R134). -/
theorem translateRaw_fst_of_not_quirk {chip : Chip} {st : Ctrl} {r : BitVec 6}
    (hres : resolution chip st.bplcon0 ≠ .shres) (hdblpf : st.bplcon0.getLsbD 10 = false)
    (hquirk : ¬ (5 ≤ (st.bplcon2.extractLsb' 3 3).toNat ∧ st.bplcon0.getLsbD 11 = false ∧
      r.getLsbD 4 = true)) : (translateRaw chip st r).1 = r := by
  have hspared : quirk st r = false := by
    rw [Bool.eq_false_iff]
    intro h
    simp only [quirk, legalPriority, pf2p, homod, Bool.and_eq_true, Bool.not_eq_true'] at h
    obtain ⟨⟨hillegal, hhomod⟩, hplane⟩ := h
    exact hquirk ⟨not_le.1 (of_decide_eq_false hillegal), hhomod, hplane⟩
  rw [translateRaw, if_neg hres, dblpf, hdblpf, spfPixel, hspared]
  rfl

/-- Settles O28: the replay writes each position once, with the registers of that position. -/
theorem unchangedLinesTranslateDirectly : Obligations.UnchangedLinesTranslateDirectly := by
  have hdirect : ∀ s : State, s.buffersWf → s.qCtrl = [] → ∀ p < s.par.hpixels,
      (pixelAt s.translate.buf.colorIndex p, pixelAt s.translate.buf.depthTag p) =
        translateRaw s.par.chip s.ctrl (pixelAt s.buf.rawBits p) := fun s hs hq p hp => by
    have h := translatedAt_translate hs (hq ▸ replayable_nil) hp
    rw [ctrlAt_of_nil hq] at h
    exact congrArg Prod.fst h
  refine ⟨fun s hs hq p hp => ?_, hdirect, fun s hs hq hres hdblpf hquirk => ?_⟩
  · have h := translatedAt_translate hs hq hp
    exact ⟨congrArg (·.1.1) h, congrArg (·.1.2) h, congrArg (·.2) h⟩
  · have ⟨hraw, _⟩ := hs
    obtain ⟨-, -, hcolor, -⟩ := buffersWf_translate hs
    refine buffer_ext hcolor hraw fun p hp => ?_
    rw [← translateRaw_fst_of_not_quirk hres hdblpf (hquirk p hp), ← hdirect s hs hq p hp]

/-! ## The window registers (R191 to R194) -/

theorem applyDiwRegs_diwstrt (st : Diw) (c : Change) :
    (applyDiwRegs st c).diwstrt = if c.registerId = .diwstrt then c.value else st.diwstrt := by
  unfold applyDiwRegs
  cases c.registerId <;> rfl

theorem applyDiwRegs_diwstop (st : Diw) (c : Change) :
    (applyDiwRegs st c).diwstop = if c.registerId = .diwstop then c.value else st.diwstop := by
  unfold applyDiwRegs
  cases c.registerId <;> rfl

theorem applyDiwRegs_bplcon3 (st : Diw) (c : Change) :
    (applyDiwRegs st c).bplcon3 = if c.registerId = .bplcon3 then c.value else st.bplcon3 := by
  unfold applyDiwRegs
  cases c.registerId <;> rfl

/-- No change moves the window flip-flop (R194). -/
theorem applyDiwRegs_hFlop (st : Diw) (c : Change) : (applyDiwRegs st c).hFlop = st.hFlop := by
  unfold applyDiwRegs
  cases c.registerId <;> rfl

/-- After the line a register of the border fill holds its last record, or what it held (R68, R194). -/
theorem borderFill_register (s : State) (f : Diw → Word) (id : RegId)
    (happly : ∀ st c, f (applyDiwRegs st c) = if c.registerId = id then c.value else f st)
    (hflop : ∀ st b, f { st with hFlop := b } = f st) :
    f s.borderFill.diw =
      (((s.qDiw.filter fun c => decide (c.registerId = id)).getLast?).map (·.value)).getD (f s.diw) := by
  have hfold : f s.borderFill.diw =
      s.qDiw.foldl (fun v c => if c.registerId = id then c.value else v) (f s.diw) :=
    replay_part (fun x : BorderState => f x.diw) _ s.qDiw _ (fun x c => happly x.diw c)
      fun x p => hflop x.diw _
  rw [hfold]
  exact foldl_last (fun v => v) _ (fun c => decide (c.registerId = id)) (·.value)
    (fun _ _ => by simp) s.qDiw _

theorem execWBplcon3_ecs {s : State} (h : s.par.chip = .ecs) (v : Word) (px : Int) :
    exec (.wBplcon3 v px) s = queueDiw .bplcon3 v px s := if_neg (by simp [h])

theorem execWBplcon3_ocs {s : State} (h : s.par.chip = .ocs) (v : Word) (px : Int) :
    exec (.wBplcon3 v px) s = .next s := if_pos h

/-- Settles O44, register by register. -/
theorem windowWritesAreQueued : Obligations.WindowWritesAreQueued := by
  refine ⟨fun v px s => ⟨queuedWrite_of_checked rfl, queuedWrite_of_checked rfl,
      fun hecs => queuedWrite_of_checked (execWBplcon3_ecs hecs v px),
      fun hocs => execWBplcon3_ocs hocs v px⟩,
    fun _ _ _ => ⟨rfl, rfl, rfl, rfl⟩, fun s => ⟨?_, ?_, ?_, ?_, rfl⟩⟩
  · exact borderFill_register s Diw.diwstrt .diwstrt applyDiwRegs_diwstrt fun _ _ => rfl
  · exact borderFill_register s Diw.diwstop .diwstop applyDiwRegs_diwstop fun _ _ => rfl
  · exact borderFill_register s Diw.bplcon3 .bplcon3 applyDiwRegs_bplcon3 fun _ _ => rfl
  · exact borderFill_register s Diw.bplcon0 .bplcon0 applyDiwRegs_bplcon0 fun _ _ => rfl

/-! ## The border at each position (R194, R195) -/

/-- The border fill's registers at position `p`, with the flip-flop as it stands before it (R71). -/
def State.diwAt (s : State) (hFlop : Bool) (p : Nat) : Diw where
  diwstrt := valueAt s.qDiw .diwstrt s.diw.diwstrt p
  diwstop := valueAt s.qDiw .diwstop s.diw.diwstop p
  bplcon3 := valueAt s.qDiw .bplcon3 s.diw.bplcon3 p
  bplcon0 := valueAt s.qDiw .bplcon0 s.diw.bplcon0 p
  hFlop := hFlop

/-- The flip-flop when the positions below `n` have been processed (R194). -/
def State.flopTo (s : State) (n : Nat) : Bool :=
  (List.range n).foldl (fun f p => windowFlop (s.diwAt f p) p) s.diw.hFlop

theorem flopTo_succ (s : State) (n : Nat) :
    s.flopTo (n + 1) = windowFlop (s.diwAt (s.flopTo n) n) n := by
  simp [State.flopTo, List.range_succ]

/-- What the border fill works on when the positions below `n` have been processed. -/
def State.borderTo (s : State) (n : Nat) : BorderState :=
  lineTo applyDiw (borderPixel s.par.chip s.vFlop) s.qDiw { diw := s.diw, buf := s.buf } n

/-- What the border fill works on right before position `p`. -/
def State.borderBefore (s : State) (p : Nat) : BorderState :=
  lineBefore applyDiw (borderPixel s.par.chip s.vFlop) s.qDiw { diw := s.diw, buf := s.buf } p

theorem borderBefore_diw {s : State} (hq : replayable s.qDiw) (p : Nat) :
    (s.borderBefore p).diw = s.diwAt (s.borderTo p).diw.hFlop p := by
  have hregister : ∀ (f : Diw → Word) (id : RegId),
      (∀ st c, f (applyDiwRegs st c) = if c.registerId = id then c.value else f st) →
      (∀ st b, f { st with hFlop := b } = f st) →
      f (s.borderBefore p).diw = valueAt s.qDiw id (f s.diw) p := fun f id happly hflop => by
    refine lineBefore_valueAt (fun x : BorderState => f x.diw) id hq _ (fun _ _ => ?_)
      (fun _ _ => ?_) p
    · exact happly ..
    · exact hflop ..
  exact Diw.ext (hregister Diw.diwstrt .diwstrt applyDiwRegs_diwstrt fun _ _ => rfl)
    (hregister Diw.diwstop .diwstop applyDiwRegs_diwstop fun _ _ => rfl)
    (hregister Diw.bplcon3 .bplcon3 applyDiwRegs_bplcon3 fun _ _ => rfl)
    (hregister Diw.bplcon0 .bplcon0 applyDiwRegs_bplcon0 fun _ _ => rfl)
    (foldl_apply_part (fun x : BorderState => x.diw.hFlop) (fun _ _ => applyDiwRegs_hFlop ..) _ _)

/-- The flip-flop carries over the line, with the comparisons of each position (R194). -/
theorem borderTo_hFlop {s : State} (hq : replayable s.qDiw) (n : Nat) :
    (s.borderTo n).diw.hFlop = s.flopTo n := by
  induction n with
  | zero => rfl
  | succ n ih =>
    rw [State.borderTo, lineTo_succ_eq_pixel, flopTo_succ, ← ih, ← borderBefore_diw hq]
    rfl

theorem borderBefore_hasLength {s : State} (hs : s.buffersWf) (p : Nat) :
    (s.borderBefore p).buf.hasLength s.par.hpixels := by
  refine lineBefore_keeps (P := fun x : BorderState => x.buf.hasLength s.par.hpixels)
    (fun _ _ hx => ?_) (fun _ _ hx => ?_) ?_ p
  · exact hx
  · exact borderPixel_hasLength _ _ _ _ _ hx
  · exact hs

/-- The border flag of every position (R194). -/
theorem pixelAt_borderFill {s : State} (hs : s.buffersWf) (hq : replayable s.qDiw) {p : Nat}
    (hp : p < s.par.hpixels) :
    pixelAt s.borderFill.buf.borderFlag p =
      if s.vFlop = true ∧ s.flopTo (p + 1) = true then 0
      else 0x80#8 ||| borderIndex s.par.chip (s.diwAt (s.flopTo (p + 1)) p) := by
  have hwritten : pixelAt s.borderFill.buf.borderFlag p =
      pixelAt (borderPixel s.par.chip s.vFlop (s.borderBefore p) p).buf.borderFlag p :=
    replay_written (fun x : BorderState => pixelAt x.buf.borderFlag p) hq _ hp (fun _ _ => rfl)
      fun x p' hne => pixelAt_setPixel_of_ne hne
  obtain ⟨-, hflag, -⟩ := borderBefore_hasLength hs p
  rw [hwritten, borderPixel, pixelAt_setPixel_self (hflag ▸ hp), borderBefore_diw hq,
    borderTo_hFlop hq, ← flopTo_succ]
  rfl

theorem borderFill_hFlop {s : State} (hq : replayable s.qDiw) :
    s.borderFill.diw.hFlop = s.flopTo s.par.hpixels :=
  (replay_lineTo (fun x : BorderState => x.diw.hFlop) hq _ fun _ _ => applyDiwRegs_hFlop ..).trans
    (borderTo_hFlop hq _)

/-- The two values of a border flag outside the window (R39, R195). -/
theorem borderFlag_eq (chip : Chip) (st : Diw) :
    0x80#8 ||| borderIndex chip st =
      if (decide (chip = .ecs) && st.bplcon0.getLsbD 0 && st.bplcon3.getLsbD 5) = true then 0xC0#8
      else 0x80#8 := by
  unfold borderIndex ecsena brdrblnk
  simp only [Bool.and_eq_true, decide_eq_true_eq, and_assoc]
  split <;> rfl

/-- The comparisons with the window stop and start (R35, R194). -/
theorem windowFlop_eq (st : Diw) (p : Nat) :
    windowFlop st p =
      if p = 512 + 2 * (st.diwstop.extractLsb' 0 8).toNat then false
      else if p = 2 * (st.diwstrt.extractLsb' 0 8).toNat then true else st.hFlop := by
  have hstop : windowStop st.diwstop = 512 + 2 * (st.diwstop.extractLsb' 0 8).toNat := by
    unfold windowStop; omega
  rw [windowFlop, hstop]
  rfl

/-- A window that opens before it closes is open from its start to its stop. -/
theorem foldl_window {start stop : Nat} (h : start < stop) (old : Bool) (n : Nat) :
    (List.range n).foldl (fun f p => if p = stop then false else if p = start then true else f) old =
      if n ≤ start then old else decide (n ≤ stop) := by
  induction n with
  | zero => simp
  | succ n ih =>
    rw [List.range_succ, List.foldl_append, ih, List.foldl_cons, List.foldl_nil]
    obtain hbefore | rfl | hafter := lt_trichotomy n start
    · simp [hbefore.le, hbefore.ne, (hbefore.trans h).ne, Nat.succ_le_of_lt hbefore]
    · simp [h.ne, Nat.succ_le_of_lt h]
    · simp only [hafter.ne', not_le.2 hafter, not_le.2 (Nat.lt_succ_of_lt hafter), if_false]
      split
      case isTrue hstop => simp [hstop]
      case isFalse hstop => rw [decide_eq_decide]; omega

/-- The window registers hold nothing that opens at its stop or later: a start is at most 510, a stop at
least 512 (R35). -/
theorem windowStart_lt_windowStop (start stop : Word) :
    2 * (start.extractLsb' 0 8).toNat < 512 + 2 * (stop.extractLsb' 0 8).toNat := by
  have := (start.extractLsb' 0 8).isLt
  omega

theorem flopTo_eq (s : State) (n : Nat) :
    s.flopTo n = (List.range n).foldl (fun f p =>
      if p = 512 + 2 * ((valueAt s.qDiw .diwstop s.diw.diwstop p).extractLsb' 0 8).toNat then false
      else if p = 2 * ((valueAt s.qDiw .diwstrt s.diw.diwstrt p).extractLsb' 0 8).toNat then true
      else f) s.diw.hFlop := by
  unfold State.flopTo
  congr 1
  funext f p
  exact windowFlop_eq (s.diwAt f p) p

theorem flopTo_of_nil {s : State} (h : s.qDiw = []) (n : Nat) :
    s.flopTo n =
      if n ≤ 2 * (s.diw.diwstrt.extractLsb' 0 8).toNat then s.diw.hFlop
      else decide (n ≤ 512 + 2 * (s.diw.diwstop.extractLsb' 0 8).toNat) := by
  rw [flopTo_eq, h]
  exact foldl_window (windowStart_lt_windowStop ..) s.diw.hFlop n

theorem diwAt_of_nil {s : State} (h : s.qDiw = []) (f : Bool) (p : Nat) :
    s.diwAt f p = { s.diw with hFlop := f } := by
  simp [State.diwAt, h]

/-- Without changes the border fill moves the flip-flop only. -/
theorem borderFill_diw_of_nil {s : State} (h : s.qDiw = []) :
    s.borderFill.diw = { s.diw with hFlop := s.flopTo s.par.hpixels } := by
  have hregister : ∀ (f : Diw → Word) (id : RegId),
      (∀ st c, f (applyDiwRegs st c) = if c.registerId = id then c.value else f st) →
      (∀ st b, f { st with hFlop := b } = f st) → f s.borderFill.diw = f s.diw :=
    fun f id happly hflop => by
      rw [borderFill_register s f id happly hflop, h]
      rfl
  exact Diw.ext (hregister Diw.diwstrt .diwstrt applyDiwRegs_diwstrt fun _ _ => rfl)
    (hregister Diw.diwstop .diwstop applyDiwRegs_diwstop fun _ _ => rfl)
    (hregister Diw.bplcon3 .bplcon3 applyDiwRegs_bplcon3 fun _ _ => rfl)
    (hregister Diw.bplcon0 .bplcon0 applyDiwRegs_bplcon0 fun _ _ => rfl)
    (borderFill_hFlop (h ▸ replayable_nil))

/-- The border fill writes border flags only (R194). -/
theorem borderFill_buf (s : State) :
    s.borderFill.buf = { s.buf with borderFlag := s.borderFill.buf.borderFlag } :=
  replay_keeps (P := fun x : BorderState => x.buf = { s.buf with borderFlag := x.buf.borderFlag })
    (fun _ _ _ hx => hx) (fun _ _ hx => by rw [borderPixel, hx]) rfl

theorem borderFill_frame (s : State) :
    s.borderFill = { s with
      diw := s.borderFill.diw, qDiw := []
      buf := { s.buf with borderFlag := s.borderFill.buf.borderFlag } } := by
  rw [← borderFill_buf]
  rfl

/-- Settles O49: the flip-flop by the comparisons position by position, and its closed form where the
window does not change. -/
theorem borderOpensInsideTheWindow : Obligations.BorderOpensInsideTheWindow := by
  refine ⟨fun s hs hq => ⟨fun p hp => ?_, ?_⟩, fun s hs hq => ⟨fun p hp => ?_, ?_, borderFill_frame s⟩⟩
  · rw [pixelAt_borderFill hs hq hp, borderFlag_eq, flopTo_eq]
    rfl
  · rw [borderFill_hFlop hq, flopTo_eq]
  · rw [pixelAt_borderFill hs (hq ▸ replayable_nil) hp, borderFlag_eq, flopTo_of_nil hq, diwAt_of_nil hq]
    rfl
  · rw [borderFill_diw_of_nil hq, flopTo_of_nil hq]
    cases s.par.hpixels with
    | zero => simp
    | succ n => rfl

end Sys2Proof.Machine
end

section
/-! The colorizer at each position of a line, with the registers as they are there (spec/20_memory.md R71,
spec/43_color_framebuffer.md R185, R196 to R200, R205). -/

namespace Sys2Proof.Machine

/-! ## The colorizer's modes (R200) -/

theorem colorMode_eq_normal {chip : Chip} {v : Word} (hres : resolution chip v ≠ .shres)
    (h : v.getLsbD 11 = false ∨ v.getLsbD 10 = true) : colorMode chip v = .normal := by
  rw [colorMode, if_neg hres, if_neg]
  rintro ⟨hhomod, hdblpf⟩
  obtain hoff | hdouble := h
  · exact Bool.false_ne_true (hoff.symm.trans hhomod)
  · exact Bool.false_ne_true (hdblpf.symm.trans hdouble)

theorem colorMode_eq_shres {chip : Chip} {v : Word} (hres : resolution chip v = .shres) :
    colorMode chip v = .shres := by rw [colorMode, if_pos hres]

theorem colorMode_eq_ham_iff {chip : Chip} {v : Word} :
    colorMode chip v = .ham ↔
      resolution chip v ≠ .shres ∧ v.getLsbD 11 = true ∧ v.getLsbD 10 = false := by
  unfold colorMode homod dblpf
  split_ifs with hres hham
  · simp [hres]
  · exact iff_of_true rfl ⟨hres, hham⟩
  · exact iff_of_false nofun fun h => hham h.2

/-! ## One position (R196 to R199) -/

section Position

variable (chip : Chip) (lut : Vector Device 4096) (buf : LineBufs) (x : ColorState) (p : Nat)

theorem colorPixel_normal {chip : Chip} {x : ColorState} (h : colorMode chip x.col.bplcon0 = .normal) :
    colorPixel chip lut buf x p =
      { x with line := x.line.set p (normalPixel lut x.col (pixelInput buf p)) } := by
  unfold colorPixel
  rw [h]

theorem colorPixel_ham {chip : Chip} {x : ColorState} (h : colorMode chip x.col.bplcon0 = .ham) :
    colorPixel chip lut buf x p =
      { x with
        hold := hamHold x.col x.hold (pixelAt buf.colorIndex p)
        line := x.line.set p (hamPixel lut x.col
          (hamHold x.col x.hold (pixelAt buf.colorIndex p)) (pixelInput buf p)) } := by
  unfold colorPixel
  rw [h]
  rfl

theorem colorPixel_shres {chip : Chip} {x : ColorState} (h : colorMode chip x.col.bplcon0 = .shres) :
    colorPixel chip lut buf x p =
      { x with line := x.line.set p (shresPixel2 lut x.col (pixelInput buf p)) } := by
  unfold colorPixel
  rw [h]

/-- In every mode a position writes its own cell only. -/
theorem colorPixel_line : ∃ c, (colorPixel chip lut buf x p).line = x.line.set p c := by
  cases h : colorMode chip x.col.bplcon0 with
  | normal => exact ⟨_, congrArg ColorState.line (colorPixel_normal lut buf p h)⟩
  | ham => exact ⟨_, congrArg ColorState.line (colorPixel_ham lut buf p h)⟩
  | shres => exact ⟨_, congrArg ColorState.line (colorPixel_shres lut buf p h)⟩

/-- Only HAM mode changes the hold color (R198). -/
theorem colorPixel_hold :
    (colorPixel chip lut buf x p).hold =
      if colorMode chip x.col.bplcon0 = .ham then hamHold x.col x.hold (pixelAt buf.colorIndex p)
      else x.hold := by
  cases h : colorMode chip x.col.bplcon0 with
  | normal => rw [colorPixel_normal lut buf p h]; rfl
  | ham => rw [colorPixel_ham lut buf p h]; rfl
  | shres => rw [colorPixel_shres lut buf p h]; rfl

end Position

/-! ## The colorizer's state at a position (R71) -/

/-- The colorizer's registers at position `p` (R71, R185). -/
def State.colAt (s : State) (p : Nat) : Col where
  color := colorsAt s.qCol s.col.color p
  bplcon0 := valueAt s.qCol .bplcon0 s.col.bplcon0 p

/-- What the colorizer works on when the positions below `n` have been processed. -/
def State.colorTo (s : State) (n : Nat) : ColorState :=
  lineTo applyCol (colorPixel s.par.chip s.lut s.buf) s.qCol
    { col := s.col, hold := s.col.color[0], line := List.replicate s.par.hpixels Cell.reset } n

/-- What the colorizer works on right before position `p`. -/
def State.colorBefore (s : State) (p : Nat) : ColorState :=
  lineBefore applyCol (colorPixel s.par.chip s.lut s.buf) s.qCol
    { col := s.col, hold := s.col.color[0], line := List.replicate s.par.hpixels Cell.reset } p

theorem colorTo_succ (s : State) (p : Nat) :
    s.colorTo (p + 1) = colorPixel s.par.chip s.lut s.buf (s.colorBefore p) p :=
  lineTo_succ_eq_pixel _ p

/-- The color registers after the changes up to `p` (R185). -/
theorem foldl_colorsAt (q : ChangeQueue) (st : Col) (p : Nat) :
    ((changesUpTo q p).foldl applyColRegs st).color = colorsAt q st.color p := by
  ext n hn : 1
  have hlast := foldl_last (fun x : Col => x.color[(⟨n, hn⟩ : Fin 32)]) applyColRegs
    (fun c => decide (c.registerId = .color ⟨n, hn⟩)) (·.value.extractLsb' 0 12)
    (fun x c => by simpa using applyColRegs_color x c ⟨n, hn⟩) (changesUpTo q p) st
  rw [changesUpTo, List.filter_filter] at hlast
  simp only [Fin.getElem_fin] at hlast
  simp only [colorsAt, changesAt, changesUpTo, Vector.getElem_ofFn, Bool.decide_and]
  exact hlast

theorem colorBefore_col {s : State} (hq : replayable s.qCol) (p : Nat) :
    (s.colorBefore p).col = s.colAt p := by
  have hfold : (s.colorBefore p).col = (changesUpTo s.qCol p).foldl applyColRegs s.col := by
    refine lineBefore_part ColorState.col applyColRegs hq _ (fun _ _ => ?_) (fun _ _ => ?_) p
    · rfl
    · exact colorPixel_col ..
  rw [hfold]
  exact Col.ext (foldl_colorsAt ..) (foldl_valueAt Col.bplcon0 applyColRegs .bplcon0
    applyColRegs_bplcon0 s.qCol s.col p)

/-- No change moves the hold color. -/
theorem colorBefore_hold (s : State) (p : Nat) : (s.colorBefore p).hold = (s.colorTo p).hold := by
  refine foldl_apply_part ColorState.hold (fun _ _ => ?_) _ _
  rfl

theorem length_colorBefore (s : State) (p : Nat) : (s.colorBefore p).line.length = s.par.hpixels := by
  refine lineBefore_keeps (P := fun x : ColorState => x.line.length = s.par.hpixels)
    (fun _ _ hx => ?_) (fun _ _ hx => ?_) ?_ p
  · exact hx
  · exact (colorPixel_length ..).trans hx
  · exact List.length_replicate

theorem getD_set_self {line : List Cell} {p : Nat} {c d : Cell} (h : p < line.length) :
    (line.set p c).getD p d = c := by simp [h]

/-- The cell of position `p` is the one that `p` writes. -/
theorem colorRun_cell {s : State} (hq : replayable s.qCol) {p : Nat} (hp : p < s.par.hpixels) :
    s.colorRun.line.getD p Cell.reset =
      (colorPixel s.par.chip s.lut s.buf (s.colorBefore p) p).line.getD p Cell.reset := by
  refine replay_written (fun x : ColorState => x.line.getD p Cell.reset) hq _ hp (fun _ _ => ?_)
    fun x p' hne => ?_
  · rfl
  · obtain ⟨c, hc⟩ := colorPixel_line s.par.chip s.lut s.buf x p'
    simp [hc, List.getElem?_set_ne hne]

/-! ## Normal and SHRES mode (R197, R199) -/

theorem colorRun_normal {s : State} (hq : replayable s.qCol) {p : Nat} (hp : p < s.par.hpixels)
    (hmode : colorMode s.par.chip (s.colAt p).bplcon0 = .normal) :
    s.colorRun.line.getD p Cell.reset = normalPixel s.lut (s.colAt p) (pixelInput s.buf p) := by
  rw [← colorBefore_col hq] at hmode ⊢
  rw [colorRun_cell hq hp, colorPixel_normal _ _ _ hmode,
    getD_set_self ((length_colorBefore s p).symm ▸ hp)]

theorem colorRun_shres {s : State} (hq : replayable s.qCol) {p : Nat} (hp : p < s.par.hpixels)
    (hmode : colorMode s.par.chip (s.colAt p).bplcon0 = .shres) :
    s.colorRun.line.getD p Cell.reset = shresPixel2 s.lut (s.colAt p) (pixelInput s.buf p) := by
  rw [← colorBefore_col hq] at hmode ⊢
  rw [colorRun_cell hq hp, colorPixel_shres _ _ _ hmode,
    getD_set_self ((length_colorBefore s p).symm ▸ hp)]

/-- The palette index that a normal pixel shows (R197). -/
theorem normalPixel_eq (lut : Vector Device 4096) (st : Col) (x : PixelInput) :
    normalPixel lut st x =
      { c0 := pal lut st.color (if x.isBorder = true then x.borderColor else x.muxIndex)
        c1 := pal lut st.color (if x.isBorder = true then x.borderColor else x.muxIndex) } := by
  rw [normalPixel, ← apply_ite (pal lut st.color)]

/-- The palette index that a SHRES sub-pixel shows (R199). -/
theorem shresSub_eq (lut : Vector Device 4096) (st : Col) (x : PixelInput) (sub : BitVec 2) :
    shresSub lut st x sub = pal lut st.color (
      if x.isBorder = true then x.borderColor
      else if isSprDepth (depthOf x.tag) = true ∨ (sub = 0 ∧ tagHas x.tag sprUnder = true) then x.muxIndex
      else sub.setWidth 7) := by
  rw [shresSub, ite_or, apply_ite (pal lut st.color), apply_ite (pal lut st.color),
    apply_ite (pal lut st.color)]

/-- Settles O47, from the cell of each mode. -/
theorem colorizerLooksUpThePalette : Obligations.ColorizerLooksUpThePalette := by
  refine fun s p hq hp => ⟨fun hres hmode => ?_, fun hres => ?_⟩
  · rw [colorRun_normal hq hp (colorMode_eq_normal hres hmode), normalPixel_eq]
    rfl
  · rw [colorRun_shres hq hp (colorMode_eq_shres hres), shresPixel2, shresSub_eq, shresSub_eq]
    rfl

/-! ## HAM mode (R198) -/

/-- A nibble put at the low end of a color, at its high end, and between. -/
theorem nibble_low (hold : Color) (d : BitVec 4) :
    (hold &&& 0xFF0#12) ||| d.setWidth 12 = hold.extractLsb' 4 8 ++ d := by
  refine BitVec.eq_of_getLsbD_eq fun i hi => ?_
  rw [BitVec.getLsbD_append]
  interval_cases i <;> simp

theorem nibble_high (hold : Color) (d : BitVec 4) :
    (hold &&& 0x0FF#12) ||| (d.setWidth 12 <<< 8) = d ++ hold.extractLsb' 0 8 := by
  refine BitVec.eq_of_getLsbD_eq fun i hi => ?_
  rw [BitVec.getLsbD_append]
  interval_cases i <;> simp

theorem nibble_middle (hold : Color) (d : BitVec 4) :
    (hold &&& 0xF0F#12) ||| (d.setWidth 12 <<< 4) =
      hold.extractLsb' 8 4 ++ (d ++ hold.extractLsb' 0 4) := by
  refine BitVec.eq_of_getLsbD_eq fun i hi => ?_
  rw [BitVec.getLsbD_append, BitVec.getLsbD_append]
  interval_cases i <;> simp

/-- The hold color after a position, by the control bits of its index (R198). -/
theorem hamHold_eq (st : Col) (hold : Color) (ci : BitVec 6) :
    hamHold st hold ci =
      if ci.extractLsb' 4 2 = 0 then
        st.color[(ci.extractLsb' 0 4).toNat]'(Nat.lt_trans (ci.extractLsb' 0 4).isLt (by decide))
      else if ci.extractLsb' 4 2 = 1 then hold.extractLsb' 4 8 ++ ci.extractLsb' 0 4
      else if ci.extractLsb' 4 2 = 2 then ci.extractLsb' 0 4 ++ hold.extractLsb' 0 8
      else hold.extractLsb' 8 4 ++ (ci.extractLsb' 0 4 ++ hold.extractLsb' 0 4) := by
  have hcontrol : ∀ m : BitVec 2, m = 0 ∨ m = 1 ∨ m = 2 ∨ m = 3 := by decide
  unfold hamHold
  obtain h | h | h | h := hcontrol (ci.extractLsb' 4 2)
  · simp [h]
  · simpa [h] using nibble_low hold (ci.extractLsb' 0 4)
  · simpa [h] using nibble_high hold (ci.extractLsb' 0 4)
  · simpa [h] using nibble_middle hold (ci.extractLsb' 0 4)

/-- The hold color after position `p`, with the registers at it: HAM mode moves it on, another mode keeps
it (R198). -/
def State.holdStep (s : State) (hold : Color) (p : Nat) : Color :=
  if colorMode s.par.chip (s.colAt p).bplcon0 = .ham then
    hamHold (s.colAt p) hold (pixelAt s.buf.colorIndex p)
  else hold

/-- The hold color when the positions below `n` have been processed. -/
def State.holdTo (s : State) (n : Nat) : Color := (List.range n).foldl s.holdStep s.col.color[0]

theorem holdTo_succ (s : State) (n : Nat) : s.holdTo (n + 1) = s.holdStep (s.holdTo n) n := by
  simp [State.holdTo, List.range_succ]

theorem colorTo_hold {s : State} (hq : replayable s.qCol) (n : Nat) :
    (s.colorTo n).hold = s.holdTo n := by
  induction n with
  | zero => rfl
  | succ n ih =>
    rw [colorTo_succ, colorPixel_hold, colorBefore_col hq, colorBefore_hold, ih, holdTo_succ,
      State.holdStep]

theorem colorRun_ham {s : State} (hq : replayable s.qCol) {p : Nat} (hp : p < s.par.hpixels)
    (hmode : colorMode s.par.chip (s.colAt p).bplcon0 = .ham) :
    s.colorRun.line.getD p Cell.reset =
      hamPixel s.lut (s.colAt p) (s.holdTo (p + 1)) (pixelInput s.buf p) := by
  have hhold : s.holdTo (p + 1) =
      hamHold (s.colAt p) (s.colorBefore p).hold (pixelAt s.buf.colorIndex p) := by
    rw [holdTo_succ, State.holdStep, if_pos hmode, colorBefore_hold, colorTo_hold hq]
  rw [hhold]
  rw [← colorBefore_col hq] at hmode ⊢
  rw [colorRun_cell hq hp, colorPixel_ham _ _ _ hmode,
    getD_set_self ((length_colorBefore s p).symm ▸ hp)]

/-- Settles O48: the hold color is the fold of the positions' steps. -/
theorem holdAndModifyRunsAlongTheLine : Obligations.HoldAndModifyRunsAlongTheLine := by
  intro s p hq hp colors ham hham index next first hold
  have hstep : s.holdStep = next := by
    funext c q
    have hmode : colorMode s.par.chip (s.colAt q).bplcon0 = .ham ↔ ham q := colorMode_eq_ham_iff
    by_cases h : ham q
    · simp only [State.holdStep, next, hmode, h, hamHold_eq, not_true, if_true, if_false]
      rfl
    · simp only [State.holdStep, next, hmode, h, not_false_eq_true, if_true, if_false]
  have hhold : s.holdTo (p + 1) = hold := by rw [State.holdTo, hstep]
  rw [colorRun_ham hq hp (colorMode_eq_ham_iff.2 hham), hhold]
  rfl

end Sys2Proof.Machine
end

section
/-! The sprite passes position by position (spec/20_memory.md R71, spec/42_sprites_collision.md R150,
R157 to R162, R174): where a unit loads, how it shifts, and what a pair draws. -/

namespace Sys2Proof.Machine

/-! ## The load (R150, R158) -/

/-- The first position of a sprite, by the fields of its registers (R30, R150). -/
theorem spriteStart_eq (u : Sprite) :
    spriteStart u = 2 * (2 * (u.pos.extractLsb' 0 8).toNat + (u.ctl.extractLsb' 0 1).toNat) := by
  have hlow : (u.ctl.extractLsb' 0 1).toNat < 2 ^ 1 := (u.ctl.extractLsb' 0 1).isLt
  rw [spriteStart, hStart, BitVec.toNat_append, ← Nat.shiftLeft_add_eq_or_of_lt hlow,
    Nat.shiftLeft_eq]
  omega

/-- The unit with its data words loaded (R158). -/
def Sprite.loaded (u : Sprite) : Sprite := { u with shiftA := u.dataA, shiftB := u.dataB, half := false }

theorem loadIfStart_of_start {p : Nat} {u : Sprite} (harmed : u.armed = true) (hp : p = spriteStart u) :
    loadIfStart p u = u.loaded := if_pos ⟨harmed, hp⟩

theorem loadIfStart_of_not {p : Nat} {u : Sprite} (h : ¬ (u.armed = true ∧ p = spriteStart u)) :
    loadIfStart p u = u := if_neg h

/-! ## The shifting (R159) -/

/-- The unit after `m` advances from the first half of a pixel. -/
def Sprite.shifted (u : Sprite) (m : Nat) : Sprite :=
  { u with shiftA := u.shiftA <<< (m / 2), shiftB := u.shiftB <<< (m / 2), half := decide (m % 2 = 1) }

/-- Every second advance shifts by one (R159). -/
theorem advance_shifted (u : Sprite) (m : Nat) : advance (u.shifted m) = u.shifted (m + 1) := by
  obtain hfirst | hsecond := Nat.mod_two_eq_zero_or_one m
  · have hhalf : (m + 1) / 2 = m / 2 := by omega
    have hmod : (m + 1) % 2 = 1 := by omega
    simp [advance, Sprite.shifted, hfirst, hhalf, hmod]
  · have hhalf : (m + 1) / 2 = m / 2 + 1 := by omega
    have hmod : (m + 1) % 2 = 0 := by omega
    simp [advance, Sprite.shifted, hsecond, hhalf, hmod, BitVec.shiftLeft_add]

theorem iterate_advance {u : Sprite} (h : u.half = false) (m : Nat) : advance^[m] u = u.shifted m := by
  induction m with
  | zero => simp [Sprite.shifted, ← h]
  | succ m ih => rw [Function.iterate_succ_apply', ih, advance_shifted]

theorem selector_shifted {u : Sprite} {m : Nat} (h : m < 32) :
    selector (u.shifted m) =
      BitVec.ofBool (u.shiftB.getLsbD (15 - m / 2)) ++ BitVec.ofBool (u.shiftA.getLsbD (15 - m / 2)) := by
  have hbit : ∀ v : Word, (v <<< (m / 2)).getLsbD 15 = v.getLsbD (15 - m / 2) := fun v => by
    simp [BitVec.getLsbD_shiftLeft, show ¬ 15 < m / 2 by omega, -BitVec.getLsbD_eq_getElem]
  exact congrArg₂ (fun b a => BitVec.ofBool b ++ BitVec.ofBool a) (hbit u.shiftB) (hbit u.shiftA)

theorem selector_of_zero {u : Sprite} (ha : u.shiftA = 0) (hb : u.shiftB = 0) : selector u = 0 := by
  rw [selector, ha, hb]
  rfl

/-- After 16 pixels of two positions nothing is left (R159). -/
theorem selector_shifted_end {u : Sprite} {m : Nat} (h : 32 ≤ m) : selector (u.shifted m) = 0 :=
  have hhalf : 16 ≤ m / 2 := by omega
  selector_of_zero (BitVec.shiftLeft_eq_zero hhalf) (BitVec.shiftLeft_eq_zero hhalf)

/-! ## What a pair draws (R157, R161, R162) -/

/-- Sprite `x` is visible at `p` (R162). -/
theorem visible_iff {d : SpriteParams} {u : Sprite} {x : Fin 8} {p : Nat} :
    visible d u x p = true ↔
      u.enabled = true ∧ d.hidden.getLsbD x.val = false ∧ d.clipBegin.toNat ≤ p ∧ p < d.clipEnd.toNat := by
  simp [visible, and_assoc]

/-- What a sprite contributes at `p`, in its window and outside (R157, R162). -/
theorem shownSelector_eq {d : SpriteParams} {u : Sprite} {x : Fin 8} {p : Nat} {sel : BitVec 2}
    (hin : u.enabled = true ∧ d.hidden.getLsbD x.val = false ∧ d.clipBegin.toNat ≤ p ∧
      p < d.clipEnd.toNat → sel = selector u)
    (hout : ¬ (u.enabled = true ∧ d.hidden.getLsbD x.val = false ∧ d.clipBegin.toNat ≤ p ∧
      p < d.clipEnd.toNat) → sel = 0) : shownSelector d u x p = sel := by
  unfold shownSelector
  split
  case isTrue h => exact (hin (visible_iff.1 h)).symm
  case isFalse h => exact (hout fun hwindow => h (visible_iff.2 hwindow)).symm

/-- The solid bits a pair marks (R40, R157). -/
theorem markSolid_pair (k : Fin 4) (se so : BitVec 2) (x : SpritePixel) :
    markSolid (oddSprite k) so (markSolid (evenSprite k) se x) =
      (x.1, x.2 ||| (if se = 0 then 0 else 1#32 <<< (8 + 2 * k.val)) |||
        (if so = 0 then 0 else 1#32 <<< (9 + 2 * k.val))) := by
  have hodd : 8 + (2 * k.val + 1) = 9 + 2 * k.val := by omega
  unfold markSolid sprSolid evenSprite oddSprite
  split_ifs <;> simp [hodd]

theorem attachedColor_eq (so se : BitVec 2) :
    attachedColor so se = BitVec.ofNat 7 (16 + 4 * so.toNat + se.toNat) := by
  have hlow : se.toNat < 2 ^ 2 := se.isLt
  rw [attachedColor, BitVec.toNat_append, ← Nat.shiftLeft_add_eq_or_of_lt hlow, Nat.shiftLeft_eq]
  congr 1
  omega

/-! ## The pass as a loop (R71, R157) -/

/-- What stays fixed during the passes of a line. -/
def State.spriteParams (s : State) : SpriteParams :=
  { hidden := s.config.hiddenSprites, clipBegin := s.clipBegin, clipEnd := s.clipEnd }

/-- Changes reach the units only. -/
theorem foldl_applySpr (t : SpriteState) (cs : ChangeQueue) :
    cs.foldl applySpr t = { t with spr := cs.foldl applySprRegs t.spr } := by
  induction cs generalizing t with
  | nil => rfl
  | cons c cs ih => rw [List.foldl_cons, ih, List.foldl_cons]; rfl

/-- One position of a pair's pass: its changes reach the units, then the position is drawn. -/
theorem lineStep_applySpr (d : SpriteParams) (k : Fin 4) (q : ChangeQueue) :
    lineStep applySpr (spritePixel d k) q = fun t p =>
      spritePixel d k { t with spr := (changesOn q p).foldl applySprRegs t.spr } p := by
  funext t p
  rw [lineStep, foldl_applySpr]

theorem spriteLine_eq_lineTo {s : State} {k : Fin 4} (hq : replayable s.qSpr[k]) :
    s.spriteLine k =
      let t := (changesPast s.qSpr[k] s.par.hpixels).foldl applySpr
        (lineTo applySpr (spritePixel s.spriteParams k) s.qSpr[k] { spr := s.spr, buf := s.buf }
          s.par.hpixels)
      { s with spr := t.spr, buf := t.buf, qSpr := s.qSpr.set k [] } := by
  rw [← replay_eq_lineTo hq]
  rfl

/-! ## A unit along a line without changes (R157 to R159) -/

/-- The unit as it is shown at position `p` of a line without changes: shifted on from the position
before, and loaded at its start. -/
def Sprite.shownAt (u : Sprite) : Nat → Sprite
  | 0 => loadIfStart 0 u
  | p + 1 => loadIfStart (p + 1) (advance (u.shownAt p))

/-- `v` is the unit `u` with other contents of the shift registers. -/
def Sprite.sameRegisters (u v : Sprite) : Prop :=
  ∃ a b h, v = { u with shiftA := a, shiftB := b, half := h }

/-- The load overwrites what the shift registers held. -/
theorem loadIfStart_sameRegisters {u v : Sprite} (h : u.sameRegisters v) (harmed : u.armed = true) :
    loadIfStart (spriteStart u) v = u.loaded := by
  obtain ⟨a, b, half, rfl⟩ := h
  exact if_pos ⟨harmed, rfl⟩

theorem sameRegisters_loadIfStart {u v : Sprite} (h : u.sameRegisters v) (p : Nat) :
    u.sameRegisters (loadIfStart p v) := by
  obtain ⟨a, b, half, rfl⟩ := h
  unfold loadIfStart
  split
  · exact ⟨_, _, _, rfl⟩
  · exact ⟨_, _, _, rfl⟩

theorem sameRegisters_advance {u v : Sprite} (h : u.sameRegisters v) : u.sameRegisters (advance v) := by
  obtain ⟨a, b, half, rfl⟩ := h
  unfold advance
  split
  · exact ⟨_, _, _, rfl⟩
  · exact ⟨_, _, _, rfl⟩

/-- A position finds the registers of the unit as they were and loads it where it starts. -/
theorem shownAt_eq_loadIfStart (u : Sprite) (p : Nat) :
    ∃ v, u.sameRegisters v ∧ u.shownAt p = loadIfStart p v := by
  induction p with
  | zero => exact ⟨u, ⟨_, _, _, rfl⟩, rfl⟩
  | succ p ih =>
    obtain ⟨v, hv, hshown⟩ := ih
    exact ⟨_, sameRegisters_advance (hshown ▸ sameRegisters_loadIfStart hv p), rfl⟩

theorem sameRegisters_shownAt (u : Sprite) (p : Nat) : u.sameRegisters (u.shownAt p) := by
  obtain ⟨v, hv, hshown⟩ := shownAt_eq_loadIfStart u p
  exact hshown ▸ sameRegisters_loadIfStart hv p

/-- Before its start, or unarmed, a unit with cleared shift registers stays cleared. -/
theorem shownAt_cleared {u : Sprite} (ha : u.shiftA = 0) (hb : u.shiftB = 0) {p : Nat}
    (hp : ¬ (u.armed = true ∧ spriteStart u ≤ p)) :
    (u.shownAt p).shiftA = 0 ∧ (u.shownAt p).shiftB = 0 := by
  induction p with
  | zero =>
    rw [Sprite.shownAt, loadIfStart_of_not fun h => hp ⟨h.1, h.2.ge⟩]
    exact ⟨ha, hb⟩
  | succ p ih =>
    obtain ⟨ha', hb'⟩ := ih fun h => hp ⟨h.1, h.2.trans (Nat.le_succ p)⟩
    obtain ⟨a, b, half, hadvance⟩ := sameRegisters_advance (sameRegisters_shownAt u p)
    have hstays : loadIfStart (p + 1) (advance (u.shownAt p)) = advance (u.shownAt p) := by
      rw [hadvance]
      exact loadIfStart_of_not fun h => hp ⟨h.1, h.2.ge⟩
    rw [Sprite.shownAt, hstays]
    unfold advance
    split <;> simp [ha', hb']

/-- An armed unit is loaded at its start and shifts on from there. -/
theorem shownAt_loaded {u : Sprite} (harmed : u.armed = true) (m : Nat) :
    u.shownAt (spriteStart u + m) = u.loaded.shifted m := by
  induction m with
  | zero =>
    obtain ⟨v, hv, hshown⟩ := shownAt_eq_loadIfStart u (spriteStart u)
    rw [Nat.add_zero, hshown, loadIfStart_sameRegisters hv harmed]
    simp [Sprite.shifted, Sprite.loaded]
  | succ m ih =>
    have hstays : loadIfStart (spriteStart u + (m + 1)) (u.loaded.shifted (m + 1)) =
        u.loaded.shifted (m + 1) :=
      loadIfStart_of_not fun h => by
        have hstart : spriteStart (u.loaded.shifted (m + 1)) = spriteStart u := rfl
        omega
    rw [← Nat.add_assoc, Sprite.shownAt, ih, advance_shifted]
    exact hstays

/-- The selector of a unit along a line without changes, from cleared shift registers (R174): the 16
pixels of its data words, two positions each, from its start on. -/
theorem selector_shownAt {u : Sprite} (ha : u.shiftA = 0) (hb : u.shiftB = 0) (p : Nat) :
    selector (u.shownAt p) =
      if u.armed = true ∧ spriteStart u ≤ p ∧ p < spriteStart u + 32 then
        BitVec.ofBool (u.dataB.getLsbD (15 - (p - spriteStart u) / 2)) ++
          BitVec.ofBool (u.dataA.getLsbD (15 - (p - spriteStart u) / 2))
      else 0 := by
  by_cases hloaded : u.armed = true ∧ spriteStart u ≤ p
  · obtain ⟨harmed, hstart⟩ := hloaded
    obtain ⟨m, rfl⟩ := Nat.exists_eq_add_of_le hstart
    rw [shownAt_loaded harmed, Nat.add_sub_cancel_left]
    obtain hshown | hpast := Nat.lt_or_ge m 32
    · rw [if_pos ⟨harmed, hstart, by omega⟩, selector_shifted hshown]
      rfl
    · rw [if_neg (by omega), selector_shifted_end hpast]
  · obtain ⟨ha', hb'⟩ := shownAt_cleared ha hb hloaded
    rw [if_neg fun h => hloaded ⟨h.1, h.2.1⟩, selector_of_zero ha' hb']

/-! ## A pair along a line without changes -/

/-- What the pass of pair `k` works on before position `p` of a line without changes. -/
def State.spriteTo (s : State) (k : Fin 4) (p : Nat) : SpriteState :=
  lineTo applySpr (spritePixel s.spriteParams k) [] { spr := s.spr, buf := s.buf } p

theorem spriteTo_succ (s : State) (k : Fin 4) (p : Nat) :
    s.spriteTo k (p + 1) = spritePixel s.spriteParams k (s.spriteTo k p) p := lineTo_succ _ p

theorem spritePixel_even (d : SpriteParams) (k : Fin 4) (t : SpriteState) (p : Nat) :
    (spritePixel d k t p).spr[evenSprite k] = advance (loadIfStart p t.spr[evenSprite k]) := by
  simp [spritePixel, evenSprite, oddSprite]

theorem spritePixel_odd (d : SpriteParams) (k : Fin 4) (t : SpriteState) (p : Nat) :
    (spritePixel d k t p).spr[oddSprite k] = advance (loadIfStart p t.spr[oddSprite k]) := by
  simp [spritePixel, evenSprite, oddSprite]

/-- A unit that every position loads and shifts is at `p` the unit shown at `p`. -/
theorem loadIfStart_spriteTo {s : State} {k : Fin 4} {x : Fin 8}
    (hx : ∀ t p, (spritePixel s.spriteParams k t p).spr[x] = advance (loadIfStart p t.spr[x])) (p : Nat) :
    loadIfStart p (s.spriteTo k p).spr[x] = s.spr[x].shownAt p := by
  induction p with
  | zero => rfl
  | succ p ih => rw [spriteTo_succ, hx, ih, Sprite.shownAt]

theorem spriteTo_hasLength {s : State} (hs : s.buffersWf) (k : Fin 4) (p : Nat) :
    (s.spriteTo k p).buf.hasLength s.par.hpixels := by
  induction p with
  | zero => exact hs
  | succ p ih => rw [spriteTo_succ]; exact spritePixel_hasLength _ _ _ _ _ ih

/-- What a line buffer holds of position `p` for the sprites. -/
def spritePixelAt (buf : LineBufs) (p : Nat) : SpritePixel :=
  (pixelAt buf.multiplexedIndex p, pixelAt buf.depthTag p)

theorem spritePixelAt_spritePixel_of_ne {d : SpriteParams} {k : Fin 4} {t : SpriteState} {p p' : Nat}
    (h : p' ≠ p) : spritePixelAt (spritePixel d k t p').buf p = spritePixelAt t.buf p := by
  simp only [spritePixelAt, spritePixel, pixelAt_setPixel_of_ne h]

/-- One position of a pair's pass draws what the two units show on the pixel (R157). -/
theorem spritePixelAt_spritePixel_self {d : SpriteParams} {k : Fin 4} {t : SpriteState} {p : Nat}
    (hmux : p < t.buf.multiplexedIndex.length) (hdepth : p < t.buf.depthTag.length) :
    spritePixelAt (spritePixel d k t p).buf p =
      pairPixel k (attached t.spr k)
        (shownSelector d (loadIfStart p t.spr[evenSprite k]) (evenSprite k) p)
        (shownSelector d (loadIfStart p t.spr[oddSprite k]) (oddSprite k) p) (spritePixelAt t.buf p) := by
  rw [spritePixelAt, spritePixel, pixelAt_setPixel_self hmux, pixelAt_setPixel_self hdepth]
  rfl

theorem loadIfStart_ctl (p : Nat) (u : Sprite) : (loadIfStart p u).ctl = u.ctl := by
  unfold loadIfStart
  split <;> rfl

/-- No position changes a register of the pair's units, so the attach bit stays (R150). -/
theorem attached_spriteTo (s : State) (k : Fin 4) (p : Nat) :
    attached (s.spriteTo k p).spr k = attached s.spr k := by
  obtain ⟨a, b, half, hsame⟩ := sameRegisters_shownAt s.spr[oddSprite k] p
  rw [attached, attached, ← loadIfStart_ctl p, loadIfStart_spriteTo (spritePixel_odd _ k), hsame]

/-- The positions below `p` have not written position `p`. -/
theorem spritePixelAt_spriteTo (s : State) (k : Fin 4) (p : Nat) :
    spritePixelAt (s.spriteTo k p).buf p = spritePixelAt s.buf p := by
  refine lineBefore_untouched (q := []) (apply := applySpr)
    (fun x : SpriteState => spritePixelAt x.buf p) _ p (fun _ _ => ?_) fun _ _ hne => ?_
  · rfl
  · exact spritePixelAt_spritePixel_of_ne hne

/-- Each position of a line without changes shows the two units of the pair as they are there. -/
theorem spritePixelAt_spriteLine {s : State} {k : Fin 4} {p : Nat} (hs : s.buffersWf)
    (hq : s.qSpr[k] = []) (hp : p < s.par.hpixels) :
    spritePixelAt (s.spriteLine k).buf p =
      pairPixel k (attached s.spr k)
        (shownSelector s.spriteParams (s.spr[evenSprite k].shownAt p) (evenSprite k) p)
        (shownSelector s.spriteParams (s.spr[oddSprite k].shownAt p) (oddSprite k) p)
        (spritePixelAt s.buf p) := by
  have hwritten : spritePixelAt (s.spriteLine k).buf p =
      spritePixelAt (spritePixel s.spriteParams k (s.spriteTo k p) p).buf p := by
    change spritePixelAt (replay s.par.hpixels applySpr (spritePixel s.spriteParams k) s.qSpr[k]
      { spr := s.spr, buf := s.buf }).buf p = _
    rw [hq]
    exact replay_written (fun x : SpriteState => spritePixelAt x.buf p) replayable_nil _ hp
      (fun _ _ => rfl) fun _ _ hne => spritePixelAt_spritePixel_of_ne hne
  obtain ⟨-, -, -, hmux, hdepth⟩ := spriteTo_hasLength hs k p
  rw [hwritten, spritePixelAt_spritePixel_self (hmux ▸ hp) (hdepth ▸ hp), attached_spriteTo,
    loadIfStart_spriteTo (spritePixel_even _ k), loadIfStart_spriteTo (spritePixel_odd _ k),
    spritePixelAt_spriteTo]

theorem shownAt_enabled (u : Sprite) (p : Nat) : (u.shownAt p).enabled = u.enabled := by
  obtain ⟨a, b, half, hsame⟩ := sameRegisters_shownAt u p
  rw [hsame]

/-! ## The statement -/

/-- Settles O34, clause by clause: the load, the shifting, one position, the pass as the loop over the
positions, and a line without changes from what a unit shows along it. -/
theorem spritesShowSixteenDoublePixels : Obligations.SpritesShowSixteenDoublePixels := by
  unfold Obligations.SpritesShowSixteenDoublePixels
  intro start inWindow draw
  have hstart : ∀ u, start u = spriteStart u := fun u => (spriteStart_eq u).symm
  have hdraw : ∀ k att se so x, pairPixel k att se so x = draw k att se so x := fun k att se so x => by
    rw [pairPixel, markSolid_pair, attachedColor_eq]
    rfl
  refine ⟨fun u p => ⟨fun h => ?_, fun h => ?_⟩, fun u m hhalf => ?_, fun d k t p => ?_,
    fun s k hq => ?_, fun s k p hs hq hp hclear => ?_⟩
  · exact loadIfStart_of_start h.1 (h.2.trans (hstart u))
  · refine loadIfStart_of_not fun hload => ?_
    obtain hunarmed | helsewhere := h
    · exact Bool.false_ne_true (hunarmed.symm.trans hload.1)
    · exact helsewhere (hload.2.trans (hstart u).symm)
  · rw [iterate_advance hhalf]
    exact ⟨rfl, selector_shifted, selector_shifted_end⟩
  · intro e o ue uo se so hse hse' hso hso'
    rw [← hdraw, ← shownSelector_eq hse hse', ← shownSelector_eq hso hso']
    rfl
  · rw [spriteLine_eq_lineTo hq, foldl_applySpr, lineTo, lineStep_applySpr]
    rfl
  · intro d held e o b se so hse hse' hso hso'
    have hshown : ∀ (x : Fin 8) (sel : BitVec 2), (inWindow d s.spr[x] x p → sel = held s.spr[x]) →
        (¬ inWindow d s.spr[x] x p → sel = 0) → shownSelector d (s.spr[x].shownAt p) x p = sel := by
      intro x sel hin hout
      have hwindow : inWindow d (s.spr[x].shownAt p) x p ↔ inWindow d s.spr[x] x p := by
        simp only [inWindow, shownAt_enabled]
      have hheld : held s.spr[x] = selector (s.spr[x].shownAt p) := by
        rw [selector_shownAt (hclear x).1 (hclear x).2, ← hstart]
      exact shownSelector_eq (fun h => (hin (hwindow.1 h)).trans hheld) fun h =>
        hout fun hwin => h (hwindow.2 hwin)
    rw [← hdraw, ← hshown e se hse hse', ← hshown o so hso hso']
    exact spritePixelAt_spriteLine hs hq hp

end Sys2Proof.Machine
end

section
/-! The decoder and the encoder undo each other (spec/30_encoding.md R90 to R97): the word put
together from its fields, the rows of the register map, the events, and the branches of the decode
procedure; with them the words the decoder refuses, and the accesses the block ignores. -/

namespace Sys2Proof

/-! ## A word from its fields (R90) -/

/-- The reserved field holds bits 15:11. -/
theorem getLsbD_of_reservedField_eq_zero {w : AccessWord} (hres : reservedField w = 0) {i : Nat}
    (hlow : 11 ≤ i) (hhigh : i < 16) : w.getLsbD i = false := by
  have hbit := congrArg (fun f => f.getLsbD (i - 11)) hres
  simpa [reservedField, show i - 11 < 5 by omega, show 11 + (i - 11) = i by omega] using hbit

/-- A word of format REG with its reserved bits 0 is the one its fields make. -/
theorem regWord_of_fields {w : AccessWord} (hres : reservedField w = 0)
    (hfmt : formatBit w = false) :
    regWord (valueField w) (writeBit w) (addrField w) = w := by
  refine BitVec.eq_of_getLsbD_eq fun i hi => ?_
  rw [getLsbD_regWord]
  split_ifs with haddr hwrite hlow
  · simp [addrField, haddr]
  · rw [hwrite]
    rfl
  · obtain rfl | hbit : i = 10 ∨ 11 ≤ i := by omega
    · exact hfmt.symm
    · exact (getLsbD_of_reservedField_eq_zero hres hbit (by omega)).symm
  · simp [valueField, show i - 16 < 16 by omega, show 16 + (i - 16) = i by omega]

/-- A word of format EVT with its reserved bits 0 is the one its fields make. -/
theorem evtWord_of_fields {w : AccessWord} (hres : reservedField w = 0) (hfmt : formatBit w = true)
    (hevt : eventReservedField w = 0) :
    evtWord (valueField w) (flagB w) (flagA w) (eventField w) = w := by
  refine BitVec.eq_of_getLsbD_eq fun i hi => ?_
  rw [getLsbD_evtWord]
  split_ifs with hcode hfa hfb hten hlow
  · simp [eventField, hcode]
  · rw [hfa]
    rfl
  · rw [hfb]
    rfl
  · rw [hten]
    exact hfmt.symm
  · obtain hmid | hbit : i < 10 ∨ 11 ≤ i := by omega
    · have hzero := congrArg (fun f => f.getLsbD (i - 6)) hevt
      simpa [eventReservedField, show i - 6 < 4 by omega, show 6 + (i - 6) = i by omega]
        using hzero.symm
    · exact (getLsbD_of_reservedField_eq_zero hres hbit (by omega)).symm
  · simp [valueField, show i - 16 < 16 by omega, show 16 + (i - 16) = i by omega]

theorem getLsbD_addrField_zero (w : AccessWord) : (addrField w).getLsbD 0 = w.getLsbD 0 := by
  simp [addrField]

/-- VALUE stands outside bits 15:0. -/
theorem extractLsb'_regWord (v v' : Word) (w : Bool) (a : Offset) :
    (regWord v w a).extractLsb' 0 16 = (regWord v' w a).extractLsb' 0 16 := by
  refine BitVec.eq_of_getLsbD_eq fun i hi => ?_
  simp [getLsbD_regWord, hi]

/-- Bit 0 of an offset is its parity (R64). -/
theorem getLsbD_zero_eq_false_iff (a : Offset) : a.getLsbD 0 = false ↔ a.toNat % 2 = 0 := by
  rw [BitVec.getLsbD, Nat.testBit_zero]
  simp

/-! ## The rows of the register map (R93) -/

/-- The operation is well formed and is issued as the write of `v` at offset `a`. -/
def Instr.WritesAt (i : Instr) (a : Offset) (v : Word) (px : Int) : Prop :=
  i.wellFormed = true ∧ encode i = writeOp a v px

theorem Instr.WritesAt.of_offset {i : Instr} {a : Offset} {n : Nat} {v : Word} {px : Int}
    (hi : i.WritesAt (BitVec.ofNat 9 n) v px) (h : a.toNat = n) : i.WritesAt a v px := by
  subst h
  rwa [BitVec.ofNat_toNat, BitVec.setWidth_eq] at hi

theorem Instr.WritesAt.ite {c : Prop} [Decidable c] {i j : Instr} {a : Offset} {v : Word} {px : Int}
    (hthen : c → i.WritesAt a v px) (helse : ¬ c → j.WritesAt a v px) :
    (if c then i else j).WritesAt a v px := by
  split_ifs with h
  · exact hthen h
  · exact helse h

section
variable (v : Word) (px : Int)

theorem bpldatWrite_writesAt (k : Fin 6) :
    (bpldatWrite k v px).WritesAt (BitVec.ofNat 9 (0x110 + 2 * k)) v px := by
  fin_cases k <;> exact ⟨rfl, rfl⟩

theorem sprPosWrite_writesAt (x : Fin 8) :
    (sprPosWrite x v px).WritesAt (BitVec.ofNat 9 (0x140 + 8 * x)) v px := by
  fin_cases x <;> exact ⟨rfl, rfl⟩

theorem sprCtlWrite_writesAt (x : Fin 8) :
    (sprCtlWrite x v px).WritesAt (BitVec.ofNat 9 (0x142 + 8 * x)) v px := by
  fin_cases x <;> exact ⟨rfl, rfl⟩

theorem sprDataWrite_writesAt (x : Fin 8) :
    (sprDataWrite x v px).WritesAt (BitVec.ofNat 9 (0x144 + 8 * x)) v px := by
  fin_cases x <;> exact ⟨rfl, rfl⟩

theorem sprDatbWrite_writesAt (x : Fin 8) :
    (sprDatbWrite x v px).WritesAt (BitVec.ofNat 9 (0x146 + 8 * x)) v px := by
  fin_cases x <;> exact ⟨rfl, rfl⟩

theorem colorWrite_writesAt (n : Fin 32) :
    (colorWrite n v px).WritesAt (BitVec.ofNat 9 (0x180 + 2 * n)) v px := by
  fin_cases n <;> exact ⟨rfl, rfl⟩

variable {v px}

/-- The even offsets that no other row has: four registers, the bitplane control registers, the
bitplane data registers, and the sprite and color registers are taken. -/
theorem writeOffsetDecoded_eq_false_iff {a : Offset} (heven : a.toNat % 2 = 0) :
    writeOffsetDecoded a = false ↔
      (a.toNat ≠ 0x00E ∧ a.toNat ≠ 0x08E ∧ a.toNat ≠ 0x090 ∧ a.toNat ≠ 0x098) ∧
      (a.toNat ≠ 0x100 ∧ a.toNat ≠ 0x102 ∧ a.toNat ≠ 0x104 ∧ a.toNat ≠ 0x106) ∧
      ¬ (0x110 ≤ a.toNat ∧ a.toNat < 0x11C) ∧ ¬ (0x140 ≤ a.toNat ∧ a.toNat < 0x1C0) := by
  simp only [writeOffsetDecoded, Bool.or_eq_false_iff, Bool.and_eq_false_iff, beq_eq_false_iff_ne,
    decide_eq_false_iff_not]
  omega

/-- An even offset that no other row has is the one of `W other` (R96). -/
theorem wOther_writesAt {a : Offset} (heven : a.toNat % 2 = 0)
    (hnone : writeOffsetDecoded a = false) : (Instr.wOther a v px).WritesAt a v px :=
  ⟨by simp [Instr.wellFormed, heven, hnone], rfl⟩

/-- An even offset that no other row has decodes to `W other` (R96). -/
theorem decodeWrite_of_not_decoded {a : Offset} (heven : a.toNat % 2 = 0)
    (hnone : writeOffsetDecoded a = false) : decodeWrite a v px = .wOther a v px := by
  rw [writeOffsetDecoded_eq_false_iff heven] at hnone
  unfold decodeWrite
  repeat rw [if_neg (by omega)]

/-- Every write at an even offset decodes to the row that has this offset (R93, R96). -/
theorem decodeWrite_writesAt {a : Offset} (heven : a.toNat % 2 = 0) :
    (decodeWrite a v px).WritesAt a v px := by
  unfold decodeWrite
  refine .ite (.of_offset ⟨rfl, rfl⟩) fun h₀ => .ite (.of_offset ⟨rfl, rfl⟩) fun h₁ =>
    .ite (.of_offset ⟨rfl, rfl⟩) fun h₂ => .ite (.of_offset ⟨rfl, rfl⟩) fun h₃ =>
    .ite (.of_offset ⟨rfl, rfl⟩) fun h₄ => .ite (.of_offset ⟨rfl, rfl⟩) fun h₅ =>
    .ite (.of_offset ⟨rfl, rfl⟩) fun h₆ => .ite (.of_offset ⟨rfl, rfl⟩) fun h₇ =>
    .ite (fun hbpl => ?bpldat) fun hbpl => .ite (fun hspr => ?sprite) fun hspr =>
    .ite (fun hcol => ?color) fun hcol => ?other
  case bpldat => exact (bpldatWrite_writesAt v px _).of_offset (by rw [Fin.val_ofNat]; omega)
  case sprite =>
    obtain hpos | hctl | hdata | hdatb : (a.toNat - 0x140) % 8 = 0 ∨ (a.toNat - 0x140) % 8 = 2 ∨
        (a.toNat - 0x140) % 8 = 4 ∨ (a.toNat - 0x140) % 8 = 6 := by omega
    · simp only [hpos]
      exact (sprPosWrite_writesAt v px _).of_offset (by rw [Fin.val_ofNat]; omega)
    · simp only [hctl]
      exact (sprCtlWrite_writesAt v px _).of_offset (by rw [Fin.val_ofNat]; omega)
    · simp only [hdata]
      exact (sprDataWrite_writesAt v px _).of_offset (by rw [Fin.val_ofNat]; omega)
    · simp only [hdatb]
      exact (sprDatbWrite_writesAt v px _).of_offset (by rw [Fin.val_ofNat]; omega)
  case color => exact (colorWrite_writesAt v px _).of_offset (by rw [Fin.val_ofNat]; omega)
  case other =>
    refine wOther_writesAt heven ((writeOffsetDecoded_eq_false_iff heven).2 ?_)
    omega

end

/-- Every read at an even offset decodes to the row that has this offset (R93, R96). -/
theorem decodeRead_readsAt {a : Offset} (heven : a.toNat % 2 = 0) :
    (decodeRead a).wellFormed = true ∧ encode (decodeRead a) = readOp a := by
  unfold decodeRead
  split_ifs with h
  · obtain rfl : a = 0x00E := BitVec.eq_of_toNat_eq h
    exact ⟨rfl, rfl⟩
  · exact ⟨by simp [Instr.wellFormed, heven, h], rfl⟩

/-! ## The events (R92) -/

/-- A sprite number of three bits is all of an argument whose other bits are 0. -/
theorem append_extractLsb'_of_high_zero {arg : Word} (h : arg.extractLsb' 3 13 = 0) :
    0#13 ++ arg.extractLsb' 0 3 = arg := by
  have hjoin : arg.extractLsb' 3 13 ++ arg.extractLsb' 0 3 = arg := by
    refine BitVec.eq_of_getLsbD_eq fun i hi => ?_
    rw [BitVec.getLsbD_append]
    split_ifs with hlow
    · simp [hlow]
    · simp [show i - 3 < 13 by omega, show 3 + (i - 3) = i by omega]
  rwa [h] at hjoin

section
variable {c : Prop} [Decidable c] {i j : Instr} {why : RefuseReason}

theorem ite_refused_eq_instr_iff :
    (if c then Decoded.instr j else .refused why) = .instr i ↔ c ∧ j = i := by
  split_ifs with h <;> simp [h]

theorem exists_ite_eq_refused_iff :
    (∃ why', (if c then Decoded.instr j else .refused why) = .refused why') ↔ ¬ c := by
  split_ifs with h <;> simp [h]

end

section
variable {ev : BitVec 4} {arg : Word} {fa fb : Bool} {px : Int} {cfg : ConfigUpdate}

/-- An event that decodes is a well-formed operation whose word has the fields that were read. -/
theorem encode_of_decodeEvent {i : Instr} (h : decodeEvent ev arg fa fb px cfg = .instr i) :
    i.wellFormed = true ∧ (encode i).word = evtWord arg fb fa ev := by
  unfold decodeEvent at h
  split at h <;> rename_i hev
  case h_1 =>
    obtain rfl : ev = 0 := BitVec.eq_of_toNat_eq hev
    obtain ⟨⟨rfl, rfl, rfl⟩, rfl⟩ := ite_refused_eq_instr_iff.1 h
    exact ⟨rfl, rfl⟩
  case h_2 =>
    obtain rfl : ev = 1 := BitVec.eq_of_toNat_eq hev
    obtain ⟨⟨rfl, rfl⟩, rfl⟩ := ite_refused_eq_instr_iff.1 h
    exact ⟨rfl, rfl⟩
  case h_3 =>
    obtain rfl : ev = 2 := BitVec.eq_of_toNat_eq hev
    cases h
    exact ⟨rfl, rfl⟩
  case h_4 =>
    obtain rfl : ev = 3 := BitVec.eq_of_toNat_eq hev
    obtain ⟨⟨rfl, rfl⟩, rfl⟩ := ite_refused_eq_instr_iff.1 h
    exact ⟨rfl, rfl⟩
  case h_5 =>
    obtain rfl : ev = 4 := BitVec.eq_of_toNat_eq hev
    obtain ⟨⟨rfl, rfl, rfl⟩, rfl⟩ := ite_refused_eq_instr_iff.1 h
    exact ⟨rfl, rfl⟩
  case h_6 =>
    obtain rfl : ev = 5 := BitVec.eq_of_toNat_eq hev
    obtain ⟨⟨rfl, rfl⟩, rfl⟩ := ite_refused_eq_instr_iff.1 h
    exact ⟨rfl, rfl⟩
  case h_7 =>
    obtain rfl : ev = 6 := BitVec.eq_of_toNat_eq hev
    obtain ⟨⟨hhigh, rfl⟩, rfl⟩ := ite_refused_eq_instr_iff.1 h
    exact ⟨rfl, congrArg (evtWord · false fa 6) (append_extractLsb'_of_high_zero hhigh)⟩
  case h_8 =>
    obtain rfl : ev = 7 := BitVec.eq_of_toNat_eq hev
    obtain ⟨⟨rfl, rfl, rfl⟩, rfl⟩ := ite_refused_eq_instr_iff.1 h
    exact ⟨rfl, rfl⟩
  case h_9 => cases h

/-- The events the decoder refuses: a reserved code, or a field that is not 0 and not used. -/
theorem decodeEvent_refused_iff :
    (∃ why, decodeEvent ev arg fa fb px cfg = .refused why) ↔
      8 ≤ ev.toNat ∨
      ((ev.toNat = 0 ∨ ev.toNat = 4 ∨ ev.toNat = 7) ∧ (arg ≠ 0 ∨ fa = true ∨ fb = true)) ∨
      (ev.toNat = 1 ∧ (arg ≠ 0 ∨ fb = true)) ∨
      ((ev.toNat = 3 ∨ ev.toNat = 5) ∧ (fa = true ∨ fb = true)) ∨
      (ev.toNat = 6 ∧ (arg.extractLsb' 3 13 ≠ 0 ∨ fb = true)) := by
  unfold decodeEvent
  split
  case h_3 hev => simp [hev]
  case h_9 h₀ h₁ h₂ h₃ h₄ h₅ h₆ h₇ =>
    have hcode : 8 ≤ ev.toNat := by
      rw [← not_lt]
      intro hlt
      interval_cases hn : ev.toNat <;> contradiction
    simp [hcode]
  all_goals
    rename_i hev
    rw [exists_ite_eq_refused_iff]
    simp [hev, not_and_or, -not_and]

end

/-! ## The branches of the decode procedure (R95) -/

section
variable {op : HostOp}

theorem decode_of_reg (hres : reservedField op.word = 0) (hfmt : formatBit op.word = false) :
    decode op =
      if (addrField op.word).getLsbD 0 then .refused .oddOffset
      else if writeBit op.word then
        .instr (decodeWrite (addrField op.word) (valueField op.word) op.px)
      else .instr (decodeRead (addrField op.word)) := by
  simp [decode, hres, hfmt]

theorem decode_of_evt (hres : reservedField op.word = 0) (hfmt : formatBit op.word = true) :
    decode op =
      if eventReservedField op.word ≠ 0 then .refused .reservedEventBits
      else decodeEvent (eventField op.word) (valueField op.word) (flagA op.word) (flagB op.word)
        op.px op.cfg := by
  simp [decode, hres, hfmt]

/-- A word of format EVT decodes to the event of its fields, with the operands outside the word. -/
theorem decode_of_evtWord {arg : Word} {fb fa : Bool} {ev : BitVec 4}
    (hword : op.word = evtWord arg fb fa ev) :
    decode op = decodeEvent ev arg fa fb op.px op.cfg := by
  simp [decode, hword]

theorem reservedField_eq_zero_of_decode {i : Instr} (h : decode op = .instr i) :
    reservedField op.word = 0 := by
  by_contra hres
  cases (if_pos hres).symm.trans h

/-- What a register access that decodes is: the write or the read at its even offset. -/
theorem decode_reg_eq_instr {i : Instr} (h : decode op = .instr i)
    (hfmt : formatBit op.word = false) :
    (addrField op.word).getLsbD 0 = false ∧
      ((writeBit op.word = true ∧ i = decodeWrite (addrField op.word) (valueField op.word) op.px) ∨
        (writeBit op.word = false ∧ i = decodeRead (addrField op.word))) := by
  rw [decode_of_reg (reservedField_eq_zero_of_decode h) hfmt] at h
  split_ifs at h with hodd hwrite
  · cases h
    exact ⟨by simpa using hodd, .inl ⟨hwrite, rfl⟩⟩
  · cases h
    exact ⟨by simpa using hodd, .inr ⟨by simpa using hwrite, rfl⟩⟩

/-- What an event word that decodes is: the event of its fields. -/
theorem decode_evt_eq_instr {i : Instr} (h : decode op = .instr i)
    (hfmt : formatBit op.word = true) :
    eventReservedField op.word = 0 ∧
      decodeEvent (eventField op.word) (valueField op.word) (flagA op.word) (flagB op.word)
        op.px op.cfg = .instr i := by
  rw [decode_of_evt (reservedField_eq_zero_of_decode h) hfmt] at h
  split_ifs at h with hevt
  exact ⟨not_not.1 hevt, h⟩

/-- The words the decoder refuses, up to the refusals of the events. -/
theorem decode_refused_iff :
    (∃ why, decode op = .refused why) ↔
      reservedField op.word ≠ 0 ∨
      (formatBit op.word = false ∧ (addrField op.word).getLsbD 0 = true) ∨
      (formatBit op.word = true ∧ (eventReservedField op.word ≠ 0 ∨
        ∃ why, decodeEvent (eventField op.word) (valueField op.word) (flagA op.word) (flagB op.word)
          op.px op.cfg = .refused why)) := by
  by_cases hres : reservedField op.word = 0
  · cases hfmt : formatBit op.word
    · rw [decode_of_reg hres hfmt]
      cases (addrField op.word).getLsbD 0
      · cases writeBit op.word <;> simp [hres]
      · simp [hres]
    · rw [decode_of_evt hres hfmt]
      by_cases hevt : eventReservedField op.word = 0#4 <;> simp [hres, hevt]
  · exact iff_of_true ⟨.reservedBits, if_pos hres⟩ (.inl hres)

end

/-! ## The statements about the decoder -/

/-- Settles O1: the offset of every row decodes to this row, and the two rows `other` have the
offsets that are left. -/
theorem encodedOperationsDecodeToThemselves : Obligations.EncodedOperationsDecodeToThemselves := by
  intro i hi
  cases i with
  | wOther a v px =>
    simp only [Instr.wellFormed, Bool.and_eq_true, beq_iff_eq, Bool.not_eq_true'] at hi
    obtain ⟨heven, hnone⟩ := hi
    exact (decode_writeOp v a px ((getLsbD_zero_eq_false_iff a).2 heven)).trans
      (congrArg _ (decodeWrite_of_not_decoded heven hnone))
  | rOther a =>
    simp only [Instr.wellFormed, Bool.and_eq_true, beq_iff_eq, bne_iff_ne] at hi
    obtain ⟨heven, hclxdat⟩ := hi
    exact (decode_readOp a ((getLsbD_zero_eq_false_iff a).2 heven)).trans
      (congrArg _ (if_neg hclxdat))
  | rClxdat => exact decode_readOp 0x00E rfl
  | spren n on px =>
    have hhigh : (0#13 ++ n).extractLsb' 3 13 = 0 := BitVec.extractLsb'_append_eq_left
    have hlow : (0#13 ++ n).extractLsb' 0 3 = n := BitVec.extractLsb'_append_eq_right
    have hevent : decodeEvent 6 (0#13 ++ n) on false px {} = .instr (.spren n on px) := by
      simp [decodeEvent, hhigh, hlow]
    exact (decode_of_evtWord rfl).trans hevent
  | config cfg => exact (decode_of_evtWord rfl).trans rfl
  | reset | bof | bol | eol | eof | stable => exact decode_eventOp ..
  | _ => exact decode_writeOp _ _ _ rfl

/-- Settles O2, format by format: a write or an event has the word that its fields make, and a read
has it but for VALUE. -/
theorem decodedWordsEncodeBack : Obligations.DecodedWordsEncodeBack := by
  intro op i h
  have hres := reservedField_eq_zero_of_decode h
  cases hfmt : formatBit op.word
  case false =>
    have hword := regWord_of_fields hres hfmt
    obtain ⟨heven, ⟨hwrite, rfl⟩ | ⟨hread, rfl⟩⟩ := decode_reg_eq_instr h hfmt
    · rw [hwrite] at hword
      obtain ⟨hwf, henc⟩ := decodeWrite_writesAt (v := valueField op.word) (px := op.px)
        ((getLsbD_zero_eq_false_iff _).1 heven)
      have hback := (congrArg HostOp.word henc).trans hword
      exact ⟨hwf, by rw [hback], fun _ => hback⟩
    · rw [hread] at hword
      obtain ⟨hwf, henc⟩ := decodeRead_readsAt ((getLsbD_zero_eq_false_iff _).1 heven)
      refine ⟨hwf, ?_, ?_⟩
      · calc (encode (decodeRead (addrField op.word))).word.extractLsb' 0 16
          _ = (regWord 0 false (addrField op.word)).extractLsb' 0 16 := by rw [henc]; rfl
          _ = (regWord (valueField op.word) false (addrField op.word)).extractLsb' 0 16 :=
            extractLsb'_regWord ..
          _ = op.word.extractLsb' 0 16 := by rw [hword]
      · rintro (hevent | hwrite)
        · cases hfmt.symm.trans hevent
        · cases hread.symm.trans hwrite
  case true =>
    obtain ⟨hevt, hevent⟩ := decode_evt_eq_instr h hfmt
    obtain ⟨hwf, henc⟩ := encode_of_decodeEvent hevent
    have hback : (encode i).word = op.word := henc.trans (evtWord_of_fields hres hfmt hevt)
    exact ⟨hwf, by rw [hback], fun _ => hback⟩

/-- Settles O3, from the refusals of the two formats. -/
theorem refusedWordsAreTheReservedOnes : Obligations.RefusedWordsAreTheReservedOnes := by
  intro op w arg ev
  rw [decode_refused_iff, decodeEvent_refused_iff, getLsbD_addrField_zero]
  rfl

/-- Settles O4: each of the words is the encoding of its operation. -/
theorem spelledWordsDecode : Obligations.SpelledWordsDecode :=
  ⟨encodedOperationsDecodeToThemselves (.wColor01 0x0F00 200) rfl,
    encodedOperationsDecodeToThemselves (.wBplcon0 0x2200 0) rfl,
    encodedOperationsDecodeToThemselves (.wSpr3data 0x8000 7) rfl,
    encodedOperationsDecodeToThemselves .rClxdat rfl,
    encodedOperationsDecodeToThemselves (.bol 44 true true) rfl,
    encodedOperationsDecodeToThemselves (.spren 3 true 100) rfl,
    encodedOperationsDecodeToThemselves (.spren 3 false 100) rfl⟩

end Sys2Proof

namespace Sys2Proof.Machine

/-! ## Accesses without effect (R95 to R97) -/

/-- A step on a refused word. -/
theorem step_refused {s : State} {op : HostOp} {rest : List HostOp} {why : RefuseReason}
    (hfatal : s.fatal = none) (hinput : s.input = op :: rest) (hop : decode op = .refused why) :
    step s = .next (s.popInput.respond (.refused why)) := by
  unfold step
  rw [hfatal, hinput]
  simp only [hop]

/-- Settles O6, from the branch of the step that refuses. -/
theorem refusedWordsOnlyTellTheHost : Obligations.RefusedWordsOnlyTellTheHost := by
  intro s op rest why hfatal hinput hop
  rw [step_refused hfatal hinput hop, State.popInput, hinput]
  rfl

theorem exec_wClxdat (v : Word) (px : Int) (s : State) : exec (.wClxdat v px) s = .next s := rfl

theorem exec_wOther (a : Offset) (v : Word) (px : Int) (s : State) :
    exec (.wOther a v px) s = .next s := rfl

theorem exec_rOther (a : Offset) (s : State) :
    exec (.rOther a) s = .next { s with
      responses := s.responses ++ [.value (Config.freeRead s.freeCount)]
      freeCount := s.freeCount + 1 } := rfl

/-- Settles O60, access by access. -/
theorem undecodedAccessesChangeNothing : Obligations.UndecodedAccessesChangeNothing :=
  fun s a v px => ⟨exec_wClxdat v px s, exec_wOther a v px s, _, exec_rOther a s⟩

end Sys2Proof.Machine
end

section
/-! The bitplane registers and the draw step (spec/40_bitplane_pipeline.md): the writes that only store a
register (R113, R114, R165), the `BPLCON0` write (R110, R112), and the raw bits that a `BPL1DAT` write
draws (R115 to R119). -/

namespace Sys2Proof.Machine

/-! ## Immediate writes (R113, R114, R165) -/

/-- An operation that runs the checks of the preamble does what an immediate write does. -/
theorem immediateWrite_of_checked {i : Instr} {px : Int} {s effect : State}
    (h : exec i s = checked (writePre s px) s effect) : immediateWrite i px s effect := by
  unfold immediateWrite
  rw [h]
  exact ⟨fun hline => checked_some (writePre_outside hline),
    fun hline hpx => checked_some (writePre_negative hline hpx),
    fun hline hpx => checked_none (writePre_inside hline hpx)⟩

/-- Settles O22: each of the writes is its effect behind the checks of the preamble. -/
theorem immediateWritesStoreTheirRegister : Obligations.ImmediateWritesStoreTheirRegister :=
  fun _ _ _ =>
    ⟨immediateWrite_of_checked rfl, immediateWrite_of_checked rfl, immediateWrite_of_checked rfl,
      immediateWrite_of_checked rfl, immediateWrite_of_checked rfl, immediateWrite_of_checked rfl,
      immediateWrite_of_checked rfl⟩

/-! ## The `BPLCON0` write (R110, R112, R120) -/

/-- The plane counts that `EffBPU` clamps (R110). -/
theorem unusualBpu_eq (chip : Chip) (v : Word) :
    unusualBpu chip v = match resolution chip v with
      | .lores => bpu v == 7
      | .hires => decide (5 ≤ bpu v)
      | .shres => decide (3 ≤ bpu v) := by
  unfold unusualBpu effBpu
  cases resolution chip v
  case lores =>
    by_cases h : bpu v = 7 <;> simp [h]
  case hires =>
    by_cases h : 5 ≤ bpu v
    · have hne : 0 ≠ bpu v := by omega
      simp [h, hne]
    · simp [h]
  case shres =>
    by_cases h : 3 ≤ bpu v
    · have hne : 0 ≠ bpu v := by omega
      simp [h, hne]
    · simp [h]

theorem diagLogIf_eq_append (log : List Diag) (cond : Bool) (kind : DiagKind) (value : Word) :
    diagLogIf log cond kind value = log ++ if cond then [{ kind := kind, value := value }] else [] := by
  cases cond <;> simp [diagLogIf]

/-- A `BPLCON0` write is its effect behind the checks of a queued write. -/
theorem exec_wBplcon0 (v : Word) (px : Int) (s : State) :
    exec (.wBplcon0 v px) s =
      checked ((writePre s px).or (overflowCheck s.par.changeCap [s.qCtrl, s.qDiw, s.qCol])) s
        (s.queueBplcon0 v px) :=
  congrArg (checked _ s) (logDiagIf_eq ..)

/-- Settles O21: the checks of a queued write into three queues, and the diagnostic spelled out. -/
theorem writeBplcon0QueuesThreeCopies : Obligations.WriteBplcon0QueuesThreeCopies := by
  intro v px s
  refine queuedWrite_of_checked ((exec_wBplcon0 v px s).trans (congrArg (checked _ s) ?_))
  rw [State.queueBplcon0, diagLogIf_eq_append, unusualBpu_eq]
  rfl

/-! ## Where a raw bit is drawn from (R116 to R118) -/

/-- The plane index whose pixels bit `j` of a raw entry shows: in SHRES the bits 0 to 3 hold two pixels
of planes 1 and 2 (R116). -/
def sourcePlane (res : Resolution) (j : Fin 6) : Fin 6 :=
  match res with
  | .shres => if j.val < 4 then Fin.ofNat 6 (j.val % 2) else j
  | _ => j

/-- Which pixel of its plane bit `j` of the entry at distance `δ` from the start shows; the draw step has
the pixels 0 to 15 (R116). -/
def sourcePixel (res : Resolution) (δ : Int) (j : Fin 6) : Int :=
  match res with
  | .lores => δ / 2
  | .hires => δ
  | .shres => 2 * δ + (j.val / 2 : Nat)

/-- Pixel `k` of plane index `i` as the draw step shows it, where `words` are the words that the shift
registers hold at the start (R116, R119). -/
def shownPixel (d : DrawParams) (words : Vector Word 6) (i : Fin 6) (k : Nat) : Bool :=
  decide (i.val < d.n) && !d.hidden.getLsbD i.val && words[i].getLsbD (15 - k)

/-- In SHRES bit 4 and bit 5 are drawn from no plane, and every other bit from a plane of its group. -/
theorem sourcePlane_mem_drawnPlanes (res : Resolution) (g : PlaneGroup) (j : Fin 6) :
    sourcePlane res j ∈ drawnPlanes res g ↔ j ∈ groupPlanes g ∧ (res = .shres → j.val < 4) := by
  revert j
  cases res <;> cases g <;> decide

theorem val_lt_two_of_mem_drawnPlanes {res : Resolution} {g : PlaneGroup} {i : Fin 6}
    (hi : i ∈ drawnPlanes res g) (hres : res = .shres) : i.val < 2 := by
  subst hres
  simpa using (List.mem_filter.1 hi).2

theorem sourcePlane_mem_groupPlanes (res : Resolution) {g : PlaneGroup} {j : Fin 6}
    (hj : j ∈ groupPlanes g) : sourcePlane res j ∈ groupPlanes g := by
  revert j
  cases res <;> cases g <;> decide

theorem mem_groupPlanes_odd {j : Fin 6} : j ∈ groupPlanes .odd ↔ j.val % 2 = 0 := by
  revert j
  decide

theorem mem_groupPlanes_even {j : Fin 6} : j ∈ groupPlanes .even ↔ ¬ j.val % 2 = 0 := by
  revert j
  decide

/-! ## The bits that a draw step writes (R116 to R119) -/

section Draw

variable {d : DrawParams} {g : PlaneGroup} {p : Nat} {j : Fin 6} {st : DrawState}

/-- The entry that `SetBit` stores: bit `i` is replaced. -/
theorem getLsbD_replaceBit (x : BitVec 6) (i : Nat) (b : Bool) :
    ((x &&& ~~~(1#6 <<< i)) ||| ((BitVec.ofBool b).setWidth 6 <<< i)).getLsbD j.val =
      if i = j.val then b else x.getLsbD j.val := by
  have hj := j.isLt
  simp only [BitVec.getLsbD_or, BitVec.getLsbD_and, BitVec.getLsbD_not, BitVec.getLsbD_shiftLeft,
    BitVec.getLsbD_one, BitVec.getLsbD_setWidth, BitVec.getLsbD_ofBool, hj, decide_true, Bool.true_and]
  obtain hlt | rfl | hgt := lt_trichotomy i j.val
  · simp [hlt.ne, Nat.sub_ne_zero_of_lt hlt]
  · simp
  · simp [hgt.ne', hgt]

/-- `SetBit` writes one bit of one entry of the line and no other. -/
theorem getLsbD_pixelAt_setBit {raw : List (BitVec 6)} (hlen : raw.length = d.hpixels)
    (hp : p < d.hpixels) (pos : Int) (i : Nat) (b : Bool) :
    (pixelAt (setBit d.hpixels raw pos i b) p).getLsbD j.val =
      if pos = p ∧ i = j.val then b else (pixelAt raw p).getLsbD j.val := by
  unfold setBit
  by_cases hpos : pos = p
  case pos =>
    subst hpos
    rw [if_pos ⟨by omega, by omega⟩, Int.toNat_natCast, pixelAt_setPixel_self (hlen ▸ hp),
      getLsbD_replaceBit]
    simp only [true_and]
  case neg =>
    rw [if_neg (c := pos = p ∧ i = j.val) fun h => hpos h.1]
    split
    case isTrue hin => rw [pixelAt_setPixel_of_ne (by omega)]
    case isFalse => rfl

/-- One pixel of one plane covers the bits that it is the source of. -/
theorem getLsbD_drawPlane (hlen : st.raw.length = d.hpixels) (hp : p < d.hpixels) (k : Nat) {i : Fin 6}
    (hi : i ∈ drawnPlanes d.res g) :
    (pixelAt (drawPlane d k st i).raw p).getLsbD j.val =
      if sourcePlane d.res j = i ∧ sourcePixel d.res (p - d.start) j = k then planeBit d st.shift i
      else (pixelAt st.raw p).getLsbD j.val := by
  unfold drawPlane
  cases hres : d.res
  case lores =>
    have hcover : (d.start + (2 * k + 1 : Nat) = p ∧ i.val = j.val ∨
          d.start + (2 * k : Nat) = p ∧ i.val = j.val) ↔
        (sourcePlane .lores j = i ∧ sourcePixel .lores (p - d.start) j = k) := by
      simp only [sourcePlane, sourcePixel, Fin.ext_iff]
      omega
    simp only [getLsbD_pixelAt_setBit ((length_setBit ..).trans hlen) hp, getLsbD_pixelAt_setBit hlen hp,
      ← ite_or, hcover]
  case hires =>
    have hcover : (d.start + (k : Nat) = p ∧ i.val = j.val) ↔
        (sourcePlane .hires j = i ∧ sourcePixel .hires (p - d.start) j = k) := by
      simp only [sourcePlane, sourcePixel, Fin.ext_iff]
      omega
    simp only [getLsbD_pixelAt_setBit hlen hp, hcover]
  case shres =>
    have hlt := val_lt_two_of_mem_drawnPlanes hi hres
    have hcover : (d.start + (k / 2 : Nat) = p ∧ i.val + 2 * (k % 2) = j.val) ↔
        (sourcePlane .shres j = i ∧ sourcePixel .shres (p - d.start) j = k) := by
      simp only [sourcePlane, sourcePixel, Fin.ext_iff, apply_ite Fin.val, Fin.val_ofNat]
      split <;> omega
    simp only [getLsbD_pixelAt_setBit hlen hp, hcover]

/-- One pixel of each plane of a list. -/
theorem getLsbD_foldl_drawPlane (hp : p < d.hpixels) (k : Nat) {planes : List (Fin 6)}
    (hplanes : ∀ i ∈ planes, i ∈ drawnPlanes d.res g) (st : DrawState)
    (hlen : st.raw.length = d.hpixels) :
    (pixelAt (planes.foldl (drawPlane d k) st).raw p).getLsbD j.val =
      if sourcePlane d.res j ∈ planes ∧ sourcePixel d.res (p - d.start) j = k then
        planeBit d st.shift (sourcePlane d.res j)
      else (pixelAt st.raw p).getLsbD j.val := by
  induction planes generalizing st with
  | nil => simp
  | cons i planes ih =>
    rw [List.foldl_cons, ih (fun x hx => hplanes x (List.mem_cons_of_mem _ hx)) _
      ((length_drawPlane_raw ..).trans hlen), getLsbD_drawPlane hlen hp k (hplanes i (List.mem_cons_self ..)),
      drawPlane_shift]
    by_cases hk : sourcePixel d.res (p - d.start) j = k <;> by_cases hi : sourcePlane d.res j = i <;>
      simp [hk, hi]

theorem foldl_shiftPlane_raw (planes : List (Fin 6)) (st : DrawState) :
    (planes.foldl shiftPlane st).raw = st.raw :=
  foldl_keeps (P := fun x : DrawState => x.raw = st.raw) (fun _ _ hx => hx) rfl

/-- One round draws pixel `k` of the drawn planes of the group. -/
theorem getLsbD_drawPixel (hlen : st.raw.length = d.hpixels) (hp : p < d.hpixels) (k : Nat) :
    (pixelAt (drawPixel d g st k).raw p).getLsbD j.val =
      if sourcePlane d.res j ∈ drawnPlanes d.res g ∧ sourcePixel d.res (p - d.start) j = k then
        planeBit d st.shift (sourcePlane d.res j)
      else (pixelAt st.raw p).getLsbD j.val := by
  rw [drawPixel, foldl_shiftPlane_raw]
  exact getLsbD_foldl_drawPlane hp k (fun _ hi => hi) st hlen

/-- After `k` rounds a plane of the group outputs pixel `k` of its word. -/
theorem planeBit_foldl_drawPixel {k : Nat} (hk : k < 16) {ks : List Nat} (hks : ks.length = k) {i : Fin 6}
    (hi : i ∈ groupPlanes g) :
    planeBit d (ks.foldl (drawPixel d g) st).shift i = shownPixel d st.shift i k := by
  have hbit : (st.shift[i] <<< k).getLsbD 15 = st.shift[i].getLsbD (15 - k) := by
    have hle : ¬ 15 < k := by omega
    rw [BitVec.getLsbD_shiftLeft, decide_eq_false hle]
    rfl
  rw [planeBit, foldl_drawPixel_shift, if_pos hi, hks, hbit, shownPixel]

theorem length_foldl_drawPixel_raw (d : DrawParams) (g : PlaneGroup) (ks : List Nat) (st : DrawState) :
    (ks.foldl (drawPixel d g) st).raw.length = st.raw.length :=
  foldl_keeps (P := fun x : DrawState => x.raw.length = st.raw.length)
    (fun _ _ hx => (length_drawPixel_raw ..).trans hx) rfl

/-- The first `n` rounds draw the pixels below `n`. -/
theorem getLsbD_foldl_drawPixel (hlen : st.raw.length = d.hpixels) (hp : p < d.hpixels) {n : Nat}
    (hn : n ≤ 16) :
    (pixelAt ((List.range n).foldl (drawPixel d g) st).raw p).getLsbD j.val =
      if sourcePlane d.res j ∈ drawnPlanes d.res g ∧ 0 ≤ sourcePixel d.res (p - d.start) j ∧
          sourcePixel d.res (p - d.start) j < n then
        shownPixel d st.shift (sourcePlane d.res j) (sourcePixel d.res (p - d.start) j).toNat
      else (pixelAt st.raw p).getLsbD j.val := by
  induction n with
  | zero =>
    rw [if_neg (by omega)]
    rfl
  | succ n ih =>
    have hraw := (length_foldl_drawPixel_raw d g (List.range n) st).trans hlen
    rw [List.range_succ, List.foldl_append, List.foldl_cons, List.foldl_nil, getLsbD_drawPixel hraw hp,
      ih (by omega)]
    by_cases hplane : sourcePlane d.res j ∈ drawnPlanes d.res g
    case neg => simp only [hplane, false_and, if_false]
    case pos =>
      have hgroup := sourcePlane_mem_groupPlanes d.res ((sourcePlane_mem_drawnPlanes ..).1 hplane).1
      rw [planeBit_foldl_drawPixel (by omega) List.length_range hgroup]
      simp only [hplane, true_and]
      obtain hlt | heq | hgt := lt_trichotomy (sourcePixel d.res (p - d.start) j) n
      · rw [if_neg (by omega)]
        exact if_congr (by omega) rfl rfl
      · rw [if_pos heq, if_pos (by omega), heq, Int.toNat_natCast]
      · rw [if_neg (by omega), if_neg (by omega), if_neg (by omega)]

/-- The raw bit that the 16 rounds leave, where `words` are the words of the shift registers. -/
def drawnBitOf (d : DrawParams) (words : Vector Word 6) (p : Nat) (j : Fin 6) (old : Bool) : Bool :=
  let k := sourcePixel d.res (p - d.start) j
  if (d.res = .shres → j.val < 4) ∧ 0 ≤ k ∧ k < 16 then shownPixel d words (sourcePlane d.res j) k.toNat
  else old

/-- The 16 rounds write the bits of the group's planes. -/
theorem getLsbD_drawSixteen (hlen : st.raw.length = d.hpixels) (hp : p < d.hpixels) :
    (pixelAt (drawSixteen d g st).raw p).getLsbD j.val =
      if j ∈ groupPlanes g then drawnBitOf d st.shift p j ((pixelAt st.raw p).getLsbD j.val)
      else (pixelAt st.raw p).getLsbD j.val := by
  have hrounds : drawSixteen d g st = (List.range 16).foldl (drawPixel d g) st := rfl
  simp only [hrounds, getLsbD_foldl_drawPixel hlen hp le_rfl, sourcePlane_mem_drawnPlanes, and_assoc]
  by_cases hj : j ∈ groupPlanes g
  · simp only [hj, true_and, if_true, drawnBitOf, Nat.cast_ofNat]
  · simp only [hj, false_and, if_false]

end Draw

/-! ## The bits of a `BPL1DAT` write (R115) -/

/-- What `DrawGroup` works with (R116). -/
def State.drawParams (s : State) (start : Int) (res : Resolution) (n : Nat) : DrawParams :=
  { hpixels := s.par.hpixels, res := res, n := n, hidden := s.config.hiddenPlanes, start := start }

/-- An armed group draws the words of the pipeline stage (R116). -/
theorem loadGroup_shift_of_mem {s : State} {g : PlaneGroup} {i : Fin 6} (harmed : s.armedGroup g = true)
    (hi : i ∈ groupPlanes g) : (s.loadGroup g).shift[i] = s.pipe[i] := by
  rw [State.loadGroup, if_pos harmed]
  cases g <;> fin_cases i <;> simp_all [groupPlanes]

/-- A group shows only the words of its own planes. -/
theorem drawnBitOf_congr {d : DrawParams} {words words' : Vector Word 6} {j : Fin 6}
    (h : words[sourcePlane d.res j] = words'[sourcePlane d.res j]) (p : Nat) (old : Bool) :
    drawnBitOf d words p j old = drawnBitOf d words' p j old := by
  simp only [drawnBitOf, shownPixel, h]

/-- An armed group draws the pipeline words of its planes into their bits (R116). -/
theorem getLsbD_drawGroup {s : State} {g : PlaneGroup} (harmed : s.armedGroup g = true)
    (hlen : s.buf.rawBits.length = s.par.hpixels) {p : Nat} (hp : p < s.par.hpixels) (start : Int)
    (res : Resolution) (n : Nat) (j : Fin 6) :
    (pixelAt (s.drawGroup g start res n).buf.rawBits p).getLsbD j.val =
      if j ∈ groupPlanes g then
        drawnBitOf (s.drawParams start res n) s.pipe p j ((pixelAt s.buf.rawBits p).getLsbD j.val)
      else (pixelAt s.buf.rawBits p).getLsbD j.val := by
  have hraw : (s.drawGroup g start res n).buf.rawBits =
      (drawSixteen (s.drawParams start res n) g
        { raw := s.buf.rawBits, shift := (s.loadGroup g).shift }).raw := by
    simp only [State.drawGroup, State.drawParams, loadGroup_par, loadGroup_config, loadGroup_buf]
  rw [hraw, getLsbD_drawSixteen (d := s.drawParams start res n) hlen hp]
  split
  case isTrue hj =>
    exact drawnBitOf_congr (loadGroup_shift_of_mem harmed (sourcePlane_mem_groupPlanes res hj)) ..
  case isFalse => rfl

theorem drawGroup_odd_armedEven (s : State) (start : Int) (res : Resolution) (n : Nat) :
    (s.drawGroup .odd start res n).armedEven = s.armedEven := by
  change (s.loadGroup .odd).armedEven = s.armedEven
  unfold State.loadGroup
  split <;> rfl

/-- The bit that the two groups leave is the one that the statement spells out. -/
theorem drawnBitOf_eq_drawnBit (s : State) (words : Vector Word 6) (px : Int) (p : Nat) (j : Fin 6) :
    drawnBitOf
        (s.drawParams (px + planeScroll s.reg.bplcon1 j.val) (resolution s.par.chip s.reg.bplcon0)
          (effBpu s.par.chip s.reg.bplcon0))
        words p j ((pixelAt s.buf.rawBits p).getLsbD j.val) =
      drawnBit s words px p j := by
  unfold drawnBitOf drawnBit State.drawParams
  dsimp only
  cases resolution s.par.chip s.reg.bplcon0
  case lores =>
    refine if_congr ?_ rfl rfl
    simp only [sourcePixel, reduceCtorEq, false_imp_iff, true_and]
    omega
  case hires =>
    refine if_congr ?_ rfl rfl
    simp only [sourcePixel, reduceCtorEq, false_imp_iff, true_and]
  case shres =>
    simp only [sourcePixel, sourcePlane, forall_const]
    generalize (p : Int) - (px + planeScroll s.reg.bplcon1 j.val) = δ
    refine ite_congr (propext ?_) (fun hin => ?_) fun _ => rfl
    · omega
    · have hpixel : (2 * δ + (j.val / 2 : Nat)).toNat = 2 * δ.toNat + j.val / 2 := by omega
      rw [hpixel, if_pos hin.1, shownPixel]

/-- Two armed groups write the bits of their own planes, each from its own start (R116). -/
theorem getLsbD_drawGroup_even_odd {s : State} (hodd : s.armedOdd = true) (heven : s.armedEven = true)
    (hlen : s.buf.rawBits.length = s.par.hpixels) {p : Nat} (hp : p < s.par.hpixels)
    (startOdd startEven : Int) (res : Resolution) (n : Nat) (j : Fin 6) :
    (pixelAt ((s.drawGroup .odd startOdd res n).drawGroup .even startEven res n).buf.rawBits p).getLsbD
        j.val =
      drawnBitOf (s.drawParams (if j.val % 2 = 0 then startOdd else startEven) res n) s.pipe p j
        ((pixelAt s.buf.rawBits p).getLsbD j.val) := by
  have harmed : (s.drawGroup .odd startOdd res n).armedGroup .even = true :=
    (drawGroup_odd_armedEven ..).trans heven
  have hparams : (s.drawGroup .odd startOdd res n).drawParams startEven res n =
      s.drawParams startEven res n := by
    simp only [State.drawParams, drawGroup_par, drawGroup_config]
  rw [getLsbD_drawGroup harmed (by simpa using hlen) (by simpa using hp),
    getLsbD_drawGroup (g := .odd) hodd hlen hp, hparams, drawGroup_pipe]
  by_cases hj : j.val % 2 = 0
  · simp only [mem_groupPlanes_even, mem_groupPlanes_odd, hj, not_true, if_true, if_false]
  · simp only [mem_groupPlanes_even, mem_groupPlanes_odd, hj, not_false_iff, if_true, if_false]

/-- The state that a `BPL1DAT` write draws from: the word stored and the pipeline loaded (R115). -/
def State.loadBpl1dat (s : State) (v : Word) : State :=
  { s with bpldat := s.bpldat.set 0 v }.pipelineLoad

/-- The raw bits of a `BPL1DAT` write, each group at its scroll (R115 to R119). -/
theorem getLsbD_loadAndDraw {s : State} (hlen : s.buf.rawBits.length = s.par.hpixels) (v : Word)
    (px : Int) {p : Nat} (hp : p < s.par.hpixels) (j : Fin 6) :
    (pixelAt (s.loadAndDraw v px).buf.rawBits p).getLsbD j.val =
      drawnBit s (s.bpldat.set 0 v) px p j := by
  have hgroups : s.loadAndDraw v px =
      ((s.loadBpl1dat v).drawGroup .odd (px + scrollOdd s.reg.bplcon1)
          (resolution s.par.chip s.reg.bplcon0) (effBpu s.par.chip s.reg.bplcon0)).drawGroup .even
        (px + scrollEven s.reg.bplcon1)
        (resolution s.par.chip s.reg.bplcon0) (effBpu s.par.chip s.reg.bplcon0) := rfl
  have hscroll : (if j.val % 2 = 0 then px + scrollOdd s.reg.bplcon1 else px + scrollEven s.reg.bplcon1) =
      px + planeScroll s.reg.bplcon1 j.val := by
    unfold planeScroll
    split <;> rfl
  rw [hgroups, getLsbD_drawGroup_even_odd (s := s.loadBpl1dat v) rfl rfl hlen hp, hscroll,
    ← drawnBitOf_eq_drawnBit]
  rfl

/-- A `BPL1DAT` write leaves everything else as it was. -/
theorem loadAndDraw_eq (s : State) (v : Word) (px : Int) :
    s.loadAndDraw v px =
      { s with
        bpldat := s.bpldat.set 0 v
        pipe := s.bpldat.set 0 v
        shift := Vector.replicate 6 0
        armedOdd := false
        armedEven := false
        buf := { s.buf with rawBits := (s.loadAndDraw v px).buf.rawBits } } := by
  obtain ⟨hodd, heven, hshift⟩ := pipelineWf_loadAndDraw s v px
  have hbuf : (s.loadAndDraw v px).buf =
      { s.buf with rawBits := (s.loadAndDraw v px).buf.rawBits } := by
    ext1 <;> simp
  ext1 <;> simp [hodd, heven, hshift, ← hbuf]

/-- Settles O23, from the frame of the write and its raw bits. -/
theorem writeBpl1datDrawsSixteenPixels : Obligations.WriteBpl1datDrawsSixteenPixels := by
  intro v px s
  obtain ⟨houtside, hnegative, hinside⟩ : immediateWrite (.wBpl1dat v px) px s (s.loadAndDraw v px) :=
    immediateWrite_of_checked rfl
  refine ⟨houtside, hnegative, fun hline hpx hlen => ⟨(s.loadAndDraw v px).buf.rawBits, ?_, ?_, ?_⟩⟩
  · rw [hinside hline hpx]
    exact congrArg Host.Outcome.next (loadAndDraw_eq s v px)
  · simpa [State.loadAndDraw, State.pipelineLoad] using hlen
  · exact fun p hp j => getLsbD_loadAndDraw hlen v px hp j

end Sys2Proof.Machine
end

section
/-! The playfield translator (spec/41_playfield_translator.md): the pixel of each mode with its tag
(R130 to R138), and the `BPLCON2` write (R139, R140). -/

namespace Sys2Proof.Machine

/-! ## Priority codes and the `BPLCON2` write (R130, R139, R140) -/

@[simp] theorem legalPriority_iff {c : BitVec 3} : legalPriority c = true ↔ c.toNat ≤ 4 :=
  decide_eq_true_iff

@[simp] theorem legalPriority_eq_false {c : BitVec 3} : legalPriority c = false ↔ 5 ≤ c.toNat :=
  decide_eq_false_iff_not.trans not_le

/-- The condition of the diagnostic: a priority code of the written value is illegal (R140). -/
theorem illegalPriority_iff {v : Word} :
    (!legalPriority (pf1p v) || !legalPriority (pf2p v)) = true ↔
      5 ≤ (pf1p v).toNat ∨ 5 ≤ (pf2p v).toNat := by
  simp only [Bool.or_eq_true, Bool.not_eq_true', legalPriority_eq_false]

/-- A `BPLCON2` write is its effect behind the checks of a queued write. -/
theorem exec_wBplcon2 (v : Word) (px : Int) (s : State) :
    exec (.wBplcon2 v px) s =
      checked ((writePre s px).or (overflowCheck s.par.changeCap [s.qCtrl])) s
        (s.queueBplcon2 v px) :=
  congrArg (checked _ s) (logDiagIf_eq ..)

/-- Settles O30: the checks of a queued write into one queue, and the diagnostic spelled out. -/
theorem writeBplcon2IsQueued : Obligations.WriteBplcon2IsQueued := by
  intro v px s
  refine queuedWrite_of_checked ((exec_wBplcon2 v px s).trans (congrArg (checked _ s) ?_))
  rw [State.queueBplcon2, diagLogIf_eq_append]
  simp only [illegalPriority_iff]
  rfl

/-! ## The bits of a depth tag (R40) -/

/-- Every bit of a tag lies in the mask. -/
def tagWithin (t m : Tag) : Prop := t &&& ~~~m = 0#32

theorem tagWithin_or {a b m : Tag} (ha : tagWithin a m) (hb : tagWithin b m) :
    tagWithin (a ||| b) m := by
  rw [tagWithin, BitVec.and_or_distrib_right, ha, hb, BitVec.or_zero]

theorem tagWithin_zero (m : Tag) : tagWithin 0#32 m := BitVec.zero_and

theorem tagWithin_flagIf {f m : Tag} (h : tagWithin f m) (cond : Bool) :
    tagWithin (flagIf cond f) m := by
  cases cond
  · exact tagWithin_zero m
  · exact h

/-- Bits outside the mask are 0. -/
theorem tagWithin.and_eq_zero {t m f : Tag} (h : tagWithin t m) (hf : m &&& f = 0#32) :
    t &&& f = 0#32 := by
  have houtside : ~~~m &&& f = f := by
    calc ~~~m &&& f = (m ||| ~~~m) &&& f := by rw [BitVec.and_or_distrib_right, hf, BitVec.zero_or]
      _ = f := by rw [BitVec.or_not_self, BitVec.allOnes_and]
  rw [← houtside, ← BitVec.and_assoc, h, BitVec.zero_and]

theorem tagWithin.mono {t m m' : Tag} (h : tagWithin t m) (hm : tagWithin m m') : tagWithin t m' :=
  h.and_eq_zero hm

theorem tagWithin_zPf (c : BitVec 3) : tagWithin (zPf c) depthMask := by
  unfold tagWithin
  revert c
  decide

theorem tagHas_or (a b f : Tag) : tagHas (a ||| b) f = (tagHas a f || tagHas b f) := by
  rw [tagHas, BitVec.and_or_distrib_right, Bool.eq_iff_iff, Bool.or_eq_true]
  simp only [tagHas, bne_iff_ne, ne_eq, BitVec.or_eq_zero_iff, not_and_or, BitVec.ofNat_eq_ofNat]

theorem tagHas_eq_false {t f : Tag} : tagHas t f = false ↔ t &&& f = 0#32 := bne_eq_false_iff_eq

theorem tagHas_flagIf (cond : Bool) (f g : Tag) : tagHas (flagIf cond f) g = (cond && tagHas f g) := by
  cases cond
  · exact tagHas_eq_false.2 BitVec.zero_and
  · rfl

/-! ## The tag of a translated pixel (R133, R135, R137) -/

/-- A tag with the flags of the two playfields on it. -/
def solidTag (base : Tag) (solid1 solid2 : Bool) : Tag :=
  base ||| flagIf solid1 pf1Solid ||| flagIf solid2 pf2Solid

section SolidTag

variable {base m : Tag} (solid1 solid2 : Bool)

@[simp] theorem depthOf_solidTag : depthOf (solidTag base solid1 solid2) = depthOf base :=
  depthOf_flagged base solid1 solid2

theorem tagHas_solidTag (f : Tag) :
    tagHas (solidTag base solid1 solid2) f =
      (tagHas base f || solid1 && tagHas pf1Solid f || solid2 && tagHas pf2Solid f) := by
  rw [solidTag, tagHas_or, tagHas_or, tagHas_flagIf, tagHas_flagIf]

theorem tagHas_solidTag_pf1Solid (h : base &&& pf1Solid = 0#32) :
    tagHas (solidTag base solid1 solid2) pf1Solid = solid1 := by
  have h1 : tagHas pf1Solid pf1Solid = true := rfl
  have h2 : tagHas pf2Solid pf1Solid = false := rfl
  rw [tagHas_solidTag, tagHas_eq_false.2 h, h1, h2, Bool.and_true, Bool.and_false, Bool.false_or,
    Bool.or_false]

theorem tagHas_solidTag_pf2Solid (h : base &&& pf2Solid = 0#32) :
    tagHas (solidTag base solid1 solid2) pf2Solid = solid2 := by
  have h1 : tagHas pf1Solid pf2Solid = false := rfl
  have h2 : tagHas pf2Solid pf2Solid = true := rfl
  rw [tagHas_solidTag, tagHas_eq_false.2 h, h1, h2, Bool.and_true, Bool.and_false, Bool.false_or,
    Bool.false_or]

/-- A flag other than those of the two playfields comes from the base. -/
theorem tagHas_solidTag_of_ne {f : Tag} (h1 : pf1Solid &&& f = 0#32) (h2 : pf2Solid &&& f = 0#32) :
    tagHas (solidTag base solid1 solid2) f = tagHas base f := by
  rw [tagHas_solidTag, tagHas_eq_false.2 h1, tagHas_eq_false.2 h2, Bool.and_false, Bool.and_false,
    Bool.or_false, Bool.or_false]

theorem tagWithin_solidTag (h : tagWithin base m) (h1 : tagWithin pf1Solid m)
    (h2 : tagWithin pf2Solid m) : tagWithin (solidTag base solid1 solid2) m :=
  tagWithin_or (tagWithin_or h (tagWithin_flagIf h1 _)) (tagWithin_flagIf h2 _)

end SolidTag

/-- The depth of a pixel that playfield 2's priority places: none where it is transparent or the code is
illegal (R133, R137). -/
def pf2Depth (st : Ctrl) (ci : BitVec 6) : Tag :=
  if ci ≠ 0 ∧ legalPriority (pf2p st.bplcon2) = true then zPf (pf2p st.bplcon2) else 0

theorem tagWithin_pf2Depth (st : Ctrl) (ci : BitVec 6) : tagWithin (pf2Depth st ci) depthMask := by
  unfold pf2Depth
  split
  · exact tagWithin_zPf _
  · exact tagWithin_zero _

@[simp] theorem depthOf_pf2Depth (st : Ctrl) (ci : BitVec 6) :
    depthOf (pf2Depth st ci) = pf2Depth st ci := by
  unfold pf2Depth
  split
  · exact depthOf_zPf _
  · rfl

/-! ## Single-playfield mode (R133, R134) -/

theorem translateRaw_spf {chip : Chip} {st : Ctrl} (hres : resolution chip st.bplcon0 ≠ .shres)
    (hdblpf : st.bplcon0.getLsbD 10 = false) (r : BitVec 6) : translateRaw chip st r = spfPixel st r := by
  rw [translateRaw, if_neg hres, dblpf, hdblpf]
  rfl

/-- The color index of a single-playfield pixel (R134). -/
def spfIndex (st : Ctrl) (r : BitVec 6) : BitVec 6 := if quirk st r then r &&& 0x30#6 else r

theorem spfPixel_eq (st : Ctrl) (r : BitVec 6) :
    spfPixel st r =
      (spfIndex st r, solidTag (pf2Depth st (spfIndex st r)) (spfIndex st r &&& 0x15#6 != 0)
        (spfIndex st r &&& 0x2A#6 != 0)) := rfl

theorem tagWithin_spfPixel (st : Ctrl) (r : BitVec 6) :
    tagWithin (spfPixel st r).2 (depthMask ||| pf1Solid ||| pf2Solid) :=
  tagWithin_solidTag _ _ ((tagWithin_pf2Depth ..).mono rfl) rfl rfl

/-- A legal priority places the pixel, and there is no quirk. -/
theorem spfPixel_of_legal {st : Ctrl} (h : legalPriority (pf2p st.bplcon2) = true) (r : BitVec 6) :
    spfIndex st r = r ∧ pf2Depth st r = if r = 0 then 0 else zPf (pf2p st.bplcon2) := by
  constructor
  · rw [spfIndex, quirk, h]
    rfl
  · simp only [pf2Depth, h, and_true, ite_not]

/-- An illegal priority leaves no depth, and the quirk ignores planes 1 to 4 where plane 5 is set, unless
HOMOD is (R134). -/
theorem spfPixel_of_illegal {st : Ctrl} (h : legalPriority (pf2p st.bplcon2) = false) (r ci : BitVec 6) :
    pf2Depth st ci = 0 ∧
      spfIndex st r =
        if st.bplcon0.getLsbD 11 = false ∧ r.getLsbD 4 = true then r &&& 0x30#6 else r := by
  constructor
  · rw [pf2Depth, h, if_neg fun hc => Bool.false_ne_true hc.2]
  · simp only [spfIndex, quirk, h, homod, Bool.not_false, Bool.true_and, Bool.and_eq_true,
      Bool.not_eq_true']

/-- Settles O24, for a legal and for an illegal priority of the playfield. -/
theorem singlePlayfieldPixelsFollowTheQuirk : Obligations.SinglePlayfieldPixelsFollowTheQuirk := by
  intro chip st r hres hdblpf
  have hwithin := tagWithin_pf2Depth st (spfIndex st r)
  rw [translateRaw_spf hres hdblpf]
  refine ⟨fun hlegal => ?_, fun hillegal => ?_, ?_, ?_, tagWithin_spfPixel st r⟩
  · obtain ⟨hindex, hdepth⟩ := spfPixel_of_legal (legalPriority_iff.2 hlegal) r
    rw [spfPixel_eq, depthOf_solidTag, depthOf_pf2Depth, hindex]
    exact ⟨rfl, hdepth⟩
  · obtain ⟨hdepth, hindex⟩ := spfPixel_of_illegal (legalPriority_eq_false.2 hillegal) r (spfIndex st r)
    rw [spfPixel_eq, depthOf_solidTag, depthOf_pf2Depth, hdepth]
    exact ⟨rfl, hindex⟩
  · exact tagHas_solidTag_pf1Solid _ _ (hwithin.and_eq_zero rfl)
  · exact tagHas_solidTag_pf2Solid _ _ (hwithin.and_eq_zero rfl)

/-! ## Dual-playfield mode (R135, R136) -/

theorem translateRaw_dpf {chip : Chip} {st : Ctrl} (hres : resolution chip st.bplcon0 ≠ .shres)
    (hdblpf : st.bplcon0.getLsbD 10 = true) (r : BitVec 6) : translateRaw chip st r = dpfPixel st r := by
  rw [translateRaw, if_neg hres, dblpf, hdblpf]
  rfl

/-- Playfield 1's index is the number that planes 1, 3 and 5 spell (R135, R136). -/
theorem dpfIndex1_toNat (st : Ctrl) (r : BitVec 6) :
    (dpfIndex1 st r).toNat =
      if (pf1p st.bplcon2).toNat ≤ 4 then
        (r.getLsbD 0).toNat + 2 * (r.getLsbD 2).toNat + 4 * (r.getLsbD 4).toNat else 0 := by
  have hplanes : ∀ r : BitVec 6,
      ((r &&& 0x01#6) ||| ((r >>> 1) &&& 0x02#6) ||| ((r >>> 2) &&& 0x04#6)).toNat =
        (r.getLsbD 0).toNat + 2 * (r.getLsbD 2).toNat + 4 * (r.getLsbD 4).toNat := by decide
  simp only [dpfIndex1, legalPriority_iff, apply_ite BitVec.toNat, hplanes]
  rfl

/-- Playfield 2's index is the number that planes 2, 4 and 6 spell (R135, R136). -/
theorem dpfIndex2_toNat (st : Ctrl) (r : BitVec 6) :
    (dpfIndex2 st r).toNat =
      if (pf2p st.bplcon2).toNat ≤ 4 then
        (r.getLsbD 1).toNat + 2 * (r.getLsbD 3).toNat + 4 * (r.getLsbD 5).toNat else 0 := by
  have hplanes : ∀ r : BitVec 6,
      (((r >>> 1) &&& 0x01#6) ||| ((r >>> 2) &&& 0x02#6) ||| ((r >>> 3) &&& 0x04#6)).toNat =
        (r.getLsbD 1).toNat + 2 * (r.getLsbD 3).toNat + 4 * (r.getLsbD 5).toNat := by decide
  simp only [dpfIndex2, legalPriority_iff, apply_ite BitVec.toNat, hplanes]
  rfl

/-- Playfield 2's colors start at 8 (R135). -/
theorem dpfIndex2_add_eight_toNat (st : Ctrl) (r : BitVec 6) :
    (dpfIndex2 st r + 8).toNat = (dpfIndex2 st r).toNat + 8 := by
  have hsmall : (dpfIndex2 st r).toNat < 8 := by
    have hbit := Bool.toNat_lt
    rw [dpfIndex2_toNat]
    split
    · have h1 := hbit (r.getLsbD 1)
      have h3 := hbit (r.getLsbD 3)
      have h5 := hbit (r.getLsbD 5)
      omega
    · decide
  bv_omega

/-- The tag of a dual-playfield pixel: `shown` is what the playfield in front gives. -/
def dpfTag (st : Ctrl) (r : BitVec 6) (shown : Tag) : Tag :=
  solidTag (shown ||| dpfFlag) (dpfIndex1 st r != 0) (dpfIndex2 st r != 0)

section Dual

variable {st : Ctrl} {r : BitVec 6}

theorem dpfTag_eq (shown : Tag) :
    dpfTag st r shown =
      dpfFlag ||| flagIf (dpfIndex1 st r != 0) pf1Solid ||| flagIf (dpfIndex2 st r != 0) pf2Solid |||
        shown := by
  unfold dpfTag solidTag
  ac_rfl

theorem depthOf_dpfTag (shown : Tag) : depthOf (dpfTag st r shown) = depthOf shown := by
  simp [dpfTag]

/-- Playfield 1 is in front (R135). -/
theorem dpfPixel_front1 (h1 : dpfIndex1 st r ≠ 0)
    (hfront : pf2pri st.bplcon2 = false ∨ dpfIndex2 st r = 0) :
    dpfPixel st r = (dpfIndex1 st r, dpfTag st r (zPf (pf1p st.bplcon2))) := by
  rw [dpfTag_eq]
  exact if_pos ⟨h1, hfront⟩

/-- Playfield 2 is in front (R135). -/
theorem dpfPixel_front2 (h2 : dpfIndex2 st r ≠ 0)
    (hfront : pf2pri st.bplcon2 = true ∨ dpfIndex1 st r = 0) :
    dpfPixel st r = (dpfIndex2 st r + 8, dpfTag st r (zPf (pf2p st.bplcon2) ||| visPf2)) := by
  have hbehind : ¬ (dpfIndex1 st r ≠ 0 ∧ (pf2pri st.bplcon2 = false ∨ dpfIndex2 st r = 0)) := by
    rintro ⟨h1, hpri | hzero⟩
    · exact hfront.elim (fun h => Bool.false_ne_true (hpri.symm.trans h)) h1
    · exact h2 hzero
  rw [dpfTag_eq, ← BitVec.or_assoc]
  exact (if_neg hbehind).trans (if_pos h2)

/-- Both playfields are transparent (R135). -/
theorem dpfPixel_transparent (h1 : dpfIndex1 st r = 0) (h2 : dpfIndex2 st r = 0) :
    dpfPixel st r = (0, dpfTag st r 0#32) := by
  rw [dpfTag_eq, BitVec.or_zero]
  exact (if_neg fun h => h.1 h1).trans (if_neg (not_not.2 h2))

/-- What is shown is the depth of a priority code, none where the code has none, and whether it is
playfield 2. -/
theorem dpfPixel_snd (st : Ctrl) (r : BitVec 6) :
    ∃ c vis, (dpfPixel st r).2 = dpfTag st r (zPf c ||| flagIf vis visPf2) := by
  by_cases h1 : dpfIndex1 st r = 0
  case pos =>
    by_cases h2 : dpfIndex2 st r = 0
    case pos => exact ⟨7, false, congrArg Prod.snd (dpfPixel_transparent h1 h2)⟩
    case neg => exact ⟨_, true, congrArg Prod.snd (dpfPixel_front2 h2 (.inr h1))⟩
  case neg =>
    by_cases hfront : pf2pri st.bplcon2 = false ∨ dpfIndex2 st r = 0
    case pos =>
      refine ⟨pf1p st.bplcon2, false, (congrArg Prod.snd (dpfPixel_front1 h1 hfront)).trans ?_⟩
      exact congrArg (dpfTag st r) BitVec.or_zero.symm
    case neg =>
      obtain ⟨hpri, h2⟩ := not_or.1 hfront
      exact ⟨_, true,
        congrArg Prod.snd (dpfPixel_front2 h2 (.inl (Bool.eq_true_of_not_eq_false hpri)))⟩

theorem tagWithin_shown (c : BitVec 3) (vis : Bool) :
    tagWithin (zPf c ||| flagIf vis visPf2) (depthMask ||| visPf2) := by
  have hvis : tagWithin visPf2 (depthMask ||| visPf2) := rfl
  exact tagWithin_or ((tagWithin_zPf c).mono rfl) (tagWithin_flagIf hvis vis)

/-- The flags of a dual-playfield pixel (R135). -/
theorem tagHas_dpfPixel (st : Ctrl) (r : BitVec 6) :
    tagHas (dpfPixel st r).2 dpfFlag = true ∧
    tagHas (dpfPixel st r).2 pf1Solid = (dpfIndex1 st r != 0) ∧
    tagHas (dpfPixel st r).2 pf2Solid = (dpfIndex2 st r != 0) := by
  obtain ⟨c, vis, htag⟩ := dpfPixel_snd st r
  have hbase : tagWithin (zPf c ||| flagIf vis visPf2 ||| dpfFlag) (depthMask ||| visPf2 ||| dpfFlag) :=
    tagWithin_or ((tagWithin_shown c vis).mono rfl) rfl
  have hdpf : tagHas dpfFlag dpfFlag = true := rfl
  rw [htag]
  refine ⟨?_, ?_, ?_⟩
  · rw [dpfTag, tagHas_solidTag_of_ne _ _ rfl rfl, tagHas_or, hdpf, Bool.or_true]
  · exact tagHas_solidTag_pf1Solid _ _ (hbase.and_eq_zero rfl)
  · exact tagHas_solidTag_pf2Solid _ _ (hbase.and_eq_zero rfl)

theorem tagWithin_dpfPixel (st : Ctrl) (r : BitVec 6) :
    tagWithin (dpfPixel st r).2 (depthMask ||| 0x17#32) := by
  obtain ⟨c, vis, htag⟩ := dpfPixel_snd st r
  rw [htag]
  exact tagWithin_solidTag _ _ (tagWithin_or ((tagWithin_shown c vis).mono rfl) rfl) rfl rfl

/-- VIS_PF2 comes with what is shown only. -/
theorem tagHas_dpfTag_visPf2 (shown : Tag) : tagHas (dpfTag st r shown) visPf2 = tagHas shown visPf2 := by
  have hdpf : tagHas dpfFlag visPf2 = false := rfl
  rw [dpfTag, tagHas_solidTag_of_ne _ _ rfl rfl, tagHas_or, hdpf, Bool.or_false]

end Dual

/-- Settles O25: the three outcomes, told apart by the numbers the planes spell. -/
theorem dualPlayfieldPixelsShowTheFrontOne : Obligations.DualPlayfieldPixelsShowTheFrontOne := by
  intro chip st r hres hdblpf
  obtain ⟨hdpf, hsolid1, hsolid2⟩ := tagHas_dpfPixel st r
  have hzero : ∀ i : BitVec 6, i.toNat = 0 ↔ i = 0 := fun i => by rw [← BitVec.toNat_inj]; rfl
  have hne : ∀ i : BitVec 6, (i.toNat != 0) = (i != 0) := fun i => by
    rw [Bool.eq_iff_iff, bne_iff_ne, bne_iff_ne, ne_eq, hzero]
  rw [translateRaw_dpf hres hdblpf]
  intro x code1 code2 front2 a b
  have ha : a = (dpfIndex1 st r).toNat := (dpfIndex1_toNat st r).symm
  have hb : b = (dpfIndex2 st r).toNat := (dpfIndex2_toNat st r).symm
  simp only [ha, hb, hne, ne_eq, hzero]
  refine ⟨?_, ?_, ?_, hdpf, hsolid1, hsolid2, tagWithin_dpfPixel st r⟩
  · rintro ⟨h1, h2⟩
    refine (dpfPixel_transparent h1 h2).trans ?_
    rw [dpfTag, h1, h2]
    rfl
  · rintro ⟨h1, hfront⟩
    rw [show x = _ from dpfPixel_front1 h1 hfront]
    refine ⟨rfl, ?_, ?_⟩
    · exact (depthOf_dpfTag _).trans (depthOf_zPf _)
    · rw [tagHas_dpfTag_visPf2]
      exact tagHas_eq_false.2 ((tagWithin_zPf _).and_eq_zero rfl)
  · rintro ⟨h2, hfront⟩
    have hvis : tagHas visPf2 visPf2 = true := rfl
    rw [show x = _ from dpfPixel_front2 h2 hfront]
    refine ⟨dpfIndex2_add_eight_toNat st r, ?_, ?_⟩
    · rw [depthOf_dpfTag, depthOf_or, depthOf_visPf2, BitVec.or_zero]
      exact depthOf_zPf _
    · rw [tagHas_dpfTag_visPf2, tagHas_or, hvis, Bool.or_true]

/-! ## SHRES mode (R137) -/

theorem translateRaw_shres {chip : Chip} {st : Ctrl} (hres : resolution chip st.bplcon0 = .shres)
    (r : BitVec 6) : translateRaw chip st r = shresPixel st r := if_pos hres

/-- The planes that make a sub-pixel of a playfield solid (R137). -/
theorem shresPixel_eq (st : Ctrl) (r : BitVec 6) :
    shresPixel st r =
      ((r.extractLsb' 0 4).setWidth 6,
        solidTag (pf2Depth st ((r.extractLsb' 0 4).setWidth 6) ||| shresPix)
          (r.getLsbD 0 || r.getLsbD 2) (r.getLsbD 1 || r.getLsbD 3)) := by
  have hlow : ∀ r : BitVec 6, r &&& 0x0F#6 = (r.extractLsb' 0 4).setWidth 6 := by decide
  have hodd : ∀ r : BitVec 6,
      ((r.extractLsb' 0 4).setWidth 6 &&& 0x5#6 != 0) = (r.getLsbD 0 || r.getLsbD 2) := by decide
  have heven : ∀ r : BitVec 6,
      ((r.extractLsb' 0 4).setWidth 6 &&& 0xA#6 != 0) = (r.getLsbD 1 || r.getLsbD 3) := by decide
  rw [← hodd, ← heven, ← hlow]
  rfl

theorem tagWithin_shresBase (st : Ctrl) (ci : BitVec 6) :
    tagWithin (pf2Depth st ci ||| shresPix) (depthMask ||| shresPix) :=
  tagWithin_or ((tagWithin_pf2Depth ..).mono rfl) rfl

theorem tagWithin_shresPixel (st : Ctrl) (r : BitVec 6) :
    tagWithin (shresPixel st r).2 (depthMask ||| 0x23#32) := by
  rw [shresPixel_eq]
  exact tagWithin_solidTag _ _ ((tagWithin_shresBase ..).mono rfl) rfl rfl

/-- Settles O26, from the pixel spelled out by the planes of its two sub-pixels. -/
theorem shresPositionsPackTwoPixels : Obligations.ShresPositionsPackTwoPixels := by
  intro chip st r hres
  have hbase := tagWithin_shresBase st ((r.extractLsb' 0 4).setWidth 6)
  have hshres : tagHas shresPix shresPix = true := rfl
  rw [translateRaw_shres hres]
  have hwithin := tagWithin_shresPixel st r
  rw [shresPixel_eq] at hwithin ⊢
  refine ⟨rfl, ?_, ?_, ?_, ?_, hwithin⟩
  · rw [depthOf_solidTag, depthOf_or, depthOf_shresPix, BitVec.or_zero, depthOf_pf2Depth]
    simp only [pf2Depth, legalPriority_iff]
    rfl
  · rw [tagHas_solidTag_of_ne _ _ rfl rfl, tagHas_or, hshres, Bool.or_true]
  · exact tagHas_solidTag_pf1Solid _ _ (hbase.and_eq_zero rfl)
  · exact tagHas_solidTag_pf2Solid _ _ (hbase.and_eq_zero rfl)

/-! ## The output contract (R138) -/

/-- The depth of a translated pixel is that of a priority code, none where the code has none. -/
theorem depthOf_translateRaw (chip : Chip) (st : Ctrl) (r : BitVec 6) :
    ∃ c, depthOf (translateRaw chip st r).2 = zPf c := by
  have hpf2 : ∀ ci, ∃ c, pf2Depth st ci = zPf c := fun ci => by
    unfold pf2Depth
    split
    · exact ⟨_, rfl⟩
    · exact ⟨7, rfl⟩
  unfold translateRaw
  split_ifs
  · simpa [shresPixel_eq] using hpf2 _
  · obtain ⟨c, vis, htag⟩ := dpfPixel_snd st r
    exact ⟨c, by simp [htag, depthOf_dpfTag]⟩
  · simpa [spfPixel_eq] using hpf2 _

/-- The translator sets no bit that belongs to the sprites alone. -/
theorem tagWithin_translateRaw (chip : Chip) (st : Ctrl) (r : BitVec 6) :
    tagWithin (translateRaw chip st r).2 (depthMask ||| 0x37#32) := by
  unfold translateRaw
  split_ifs
  · exact (tagWithin_shresPixel st r).mono rfl
  · exact (tagWithin_dpfPixel st r).mono rfl
  · exact (tagWithin_spfPixel st r).mono rfl

/-- What R138 asks of a position that the translator has left. -/
def translatedLegal (x : Translated × BitVec 7) : Prop :=
  x.2 = x.1.1.setWidth 7 ∧ (depthOf x.1.2 = 0 ∨ isPfDepth (depthOf x.1.2) = true) ∧
    x.1.2 &&& (0xFF00#32 ||| sprUnder) = 0

theorem translatedLegal_translateRaw (chip : Chip) (st : Ctrl) (r : BitVec 6) :
    translatedLegal (translateRaw chip st r, (translateRaw chip st r).1.setWidth 7) := by
  have hzPf : ∀ c, zPf c = 0 ∨ isPfDepth (zPf c) = true := by decide
  obtain ⟨c, hdepth⟩ := depthOf_translateRaw chip st r
  exact ⟨rfl, hdepth ▸ hzPf c, (tagWithin_translateRaw chip st r).and_eq_zero rfl⟩

end Sys2Proof.Machine
end

section
/-! What the translator leaves of a line (spec/41_playfield_translator.md R138, R142): every position is
processed, whatever the queue (spec/20_memory.md R68), and what the sprite passes may change of it. -/

namespace Sys2Proof.Machine

/-! ## Every position of the line is processed (R68) -/

section Reach

variable {σ : Type} {hpixels : Nat} {apply : σ → Change → σ} {pixel : σ → Nat → σ} {P Q : σ → Prop}
  {p : Nat}

/-- A run of pixels that begins at or before `p`, or finds `Q` there, and passes `p` leaves `Q`. -/
theorem pixelRun_reaches (hpixel : ∀ x p', P x → P (pixel x p')) (hreach : ∀ x, P x → Q (pixel x p))
    (hkeep : ∀ x p', p' ≠ p → Q x → Q (pixel x p')) {st : σ} {first n : Nat} (h : P st)
    (hpassed : p < first → Q st) (hlast : p < first + n) : Q (pixelRun pixel st first n) := by
  induction n generalizing st first with
  | zero => exact hpassed hlast
  | succ n ih =>
    refine ih (hpixel _ _ h) (fun hfirst => ?_) (by omega)
    by_cases heq : first = p
    · exact heq ▸ hreach _ h
    · exact hkeep _ _ heq (hpassed (by omega))

/-- Whatever the queue, a replay processes every position of the line: what the pixel at `p` establishes,
and neither a change nor another pixel undoes, holds at the end. -/
theorem replay_reaches (happly : ∀ x c, P x → P (apply x c)) (hpixel : ∀ x p', P x → P (pixel x p'))
    (hreach : ∀ x, P x → Q (pixel x p)) (hkeepApply : ∀ x c, Q x → Q (apply x c))
    (hkeep : ∀ x p', p' ≠ p → Q x → Q (pixel x p')) (hp : p < hpixels) (q : ChangeQueue) {st : σ}
    (h : P st) : Q (replay hpixels apply pixel q st) := by
  suffices ∀ first, (p < first → Q st) → Q (replayFrom hpixels apply pixel q st first) from
    this 0 fun hlt => absurd hlt (Nat.not_lt_zero p)
  induction q generalizing st with
  | nil => exact fun first hpassed => pixelRun_reaches hpixel hreach hkeep h hpassed (by omega)
  | cons c q ih =>
    refine fun first hpassed => ih (happly _ _ (pixelRun_keeps hpixel h)) _ fun hlt => ?_
    exact hkeepApply _ _ (pixelRun_reaches hpixel hreach hkeep h hpassed (by omega))

/-- A map that the changes and the pixels respect, a replay respects. -/
theorem replay_hom {τ : Type} (f : σ → τ) {apply' : τ → Change → τ} {pixel' : τ → Nat → τ}
    (happly : ∀ x c, f (apply x c) = apply' (f x) c) (hpixel : ∀ x p, f (pixel x p) = pixel' (f x) p)
    (q : ChangeQueue) (st : σ) :
    f (replay hpixels apply pixel q st) = replay hpixels apply' pixel' q (f st) := by
  have hrun : ∀ n (x : σ) first, f (pixelRun pixel x first n) = pixelRun pixel' (f x) first n := by
    intro n
    induction n with
    | zero => exact fun _ _ => rfl
    | succ n ih => intro x first; rw [pixelRun, ih, hpixel, pixelRun]
  suffices ∀ first, f (replayFrom hpixels apply pixel q st first) =
      replayFrom hpixels apply' pixel' q (f st) first from this 0
  induction q generalizing st with
  | nil => exact fun _ => hrun _ _ _
  | cons c q ih => intro first; rw [replayFrom, ih, happly, hrun, replayFrom]

end Reach

/-! ## What the translator leaves at a position, whatever the queue (R131, R138) -/

theorem translatedAt_translatePixel {hpixels p : Nat} {x : TranslateState} (h : x.buf.hasLength hpixels)
    (hp : p < hpixels) (chip : Chip) :
    translatedAt (translatePixel chip x p).buf p =
      (translateRaw chip x.ctrl (pixelAt x.buf.rawBits p),
        (translateRaw chip x.ctrl (pixelAt x.buf.rawBits p)).1.setWidth 7) := by
  obtain ⟨-, -, hcolor, hmux, hdepth⟩ := h
  rw [translatePixel, translatedAt, pixelAt_setPixel_self (hcolor ▸ hp),
    pixelAt_setPixel_self (hdepth ▸ hp), pixelAt_setPixel_self (hmux ▸ hp)]

theorem translatedAt_translatePixel_of_ne {p p' : Nat} (h : p' ≠ p) (chip : Chip) (x : TranslateState) :
    translatedAt (translatePixel chip x p').buf p = translatedAt x.buf p := by
  simp only [translatedAt, translatePixel, pixelAt_setPixel_of_ne h]

/-- The contract holds at every position, since each is translated (R138). -/
theorem translatedLegal_translate {s : State} (hs : s.buffersWf) {p : Nat} (hp : p < s.par.hpixels) :
    translatedLegal (translatedAt s.translate.buf p) := by
  refine replay_reaches (P := fun x : TranslateState => x.buf.hasLength s.par.hpixels)
    (Q := fun x => translatedLegal (translatedAt x.buf p)) (apply := applyCtrl)
    (fun _ _ hx => hx) (translatePixel_hasLength _ _) (fun x hx => ?_) (fun _ _ hx => hx)
    (fun x p' hne hx => ?_) hp s.qCtrl hs
  · rw [translatedAt_translatePixel hx hp]
    exact translatedLegal_translateRaw ..
  · rwa [translatedAt_translatePixel_of_ne hne]

/-! ## What the sprite passes may change (R138, R157) -/

/-- The bits of a tag that a sprite pass may change: DEPTH, SPR_SOLID and SPR_UNDER. -/
def spriteBits : Tag := depthMask ||| 0xFF00#32 ||| sprUnder

/-- Bits within the mask do not show outside it. -/
theorem or_and_not_of_tagWithin {a b m : Tag} (h : tagWithin b m) :
    (a ||| b) &&& ~~~m = a &&& ~~~m := by
  rw [BitVec.and_or_distrib_right, h, BitVec.or_zero]

theorem tagWithin_sprSolid : ∀ x, tagWithin (sprSolid x) spriteBits := by
  unfold tagWithin
  decide

theorem offer_outside_spriteBits (n : Fin 8) (idx : BitVec 7) (x : SpritePixel) :
    (offer (zSp n) idx x).2 &&& ~~~spriteBits = x.2 &&& ~~~spriteBits := by
  have hz : tagWithin (zSp n) spriteBits := tagWithin.mono (zSp_outside_depthMask n) rfl
  have hmask : ~~~depthMask &&& ~~~spriteBits = ~~~spriteBits := rfl
  unfold offer
  dsimp only
  split_ifs
  · rw [or_and_not_of_tagWithin hz, BitVec.and_assoc, hmask]
  · exact or_and_not_of_tagWithin rfl
  · rfl

theorem markSolid_outside_spriteBits (x : Fin 8) (sel : BitVec 2) (px : SpritePixel) :
    (markSolid x sel px).2 &&& ~~~spriteBits = px.2 &&& ~~~spriteBits := by
  unfold markSolid
  split
  · rfl
  · exact or_and_not_of_tagWithin (tagWithin_sprSolid x)

theorem pairPixel_outside_spriteBits (k : Fin 4) (att : Bool) (se so : BitVec 2) (x : SpritePixel) :
    (pairPixel k att se so x).2 &&& ~~~spriteBits = x.2 &&& ~~~spriteBits := by
  have hmarked : (markSolid (oddSprite k) so (markSolid (evenSprite k) se x)).2 &&& ~~~spriteBits =
      x.2 &&& ~~~spriteBits :=
    (markSolid_outside_spriteBits ..).trans (markSolid_outside_spriteBits ..)
  unfold pairPixel
  dsimp only
  split_ifs <;> simp only [offer_outside_spriteBits, hmarked]

/-- Buffers that differ only where a sprite pass may write: in the palette indices, and in the sprites'
bits of the tags. -/
structure SameButSprites (b b' : LineBufs) : Prop where
  colorIndex : b.colorIndex = b'.colorIndex
  rawBits : b.rawBits = b'.rawBits
  borderFlag : b.borderFlag = b'.borderFlag
  depthTag : ∀ p, pixelAt b.depthTag p &&& ~~~spriteBits = pixelAt b'.depthTag p &&& ~~~spriteBits

theorem SameButSprites.refl (b : LineBufs) : SameButSprites b b := ⟨rfl, rfl, rfl, fun _ => rfl⟩

theorem SameButSprites.trans {b b' b'' : LineBufs} (h : SameButSprites b b') (h' : SameButSprites b' b'') :
    SameButSprites b b'' :=
  ⟨h.colorIndex.trans h'.colorIndex, h.rawBits.trans h'.rawBits, h.borderFlag.trans h'.borderFlag,
    fun p => (h.depthTag p).trans (h'.depthTag p)⟩

theorem sameButSprites_spritePixel (d : SpriteParams) (k : Fin 4) (x : SpriteState) (p : Nat) :
    SameButSprites (spritePixel d k x p).buf x.buf := by
  refine ⟨rfl, rfl, rfl, fun p' => ?_⟩
  rw [spritePixel, pixelAt_setPixel]
  split
  case isTrue h => rw [pairPixel_outside_spriteBits, h.1]
  case isFalse => rfl

theorem sameButSprites_spriteLine (s : State) (k : Fin 4) :
    SameButSprites (s.spriteLine k).buf s.buf :=
  replay_keeps (P := fun x : SpriteState => SameButSprites x.buf s.buf) (fun _ _ _ hx => hx)
    (fun x p hx => (sameButSprites_spritePixel _ k x p).trans hx) (.refl _)

theorem sameButSprites_spriteLines (s : State) : SameButSprites s.spriteLines.buf s.buf :=
  (sameButSprites_spriteLine _ 3).trans <| (sameButSprites_spriteLine _ 2).trans <|
    (sameButSprites_spriteLine _ 1).trans (sameButSprites_spriteLine s 0)

/-- Settles O27: each position holds a translated pixel, and a sprite pass writes palette indices and the
sprites' bits of the tags. -/
theorem translationKeepsItsOutputContract : Obligations.TranslationKeepsItsOutputContract := by
  refine ⟨fun s hs p hp => translatedLegal_translate hs hp, fun s => ?_⟩
  obtain ⟨hcolor, hraw, hborder, hdepth⟩ := sameButSprites_spriteLines s
  exact ⟨hcolor, hraw, hborder, hdepth⟩

/-! ## The translation is stateless (R142) -/

/-- A change for two translators that run side by side. -/
def applyCtrlBoth (x : TranslateState × TranslateState) (c : Change) : TranslateState × TranslateState :=
  (applyCtrl x.1 c, applyCtrl x.2 c)

/-- A position of two translators that run side by side. -/
def translateBoth (chip : Chip) (x : TranslateState × TranslateState) (p : Nat) :
    TranslateState × TranslateState := (translatePixel chip x.1 p, translatePixel chip x.2 p)

/-- Side by side, each translator runs as it does alone. -/
theorem replay_translateBoth (hpixels : Nat) (chip : Chip) (q : ChangeQueue)
    (x : TranslateState × TranslateState) :
    replay hpixels applyCtrlBoth (translateBoth chip) q x =
      (replay hpixels applyCtrl (translatePixel chip) q x.1,
        replay hpixels applyCtrl (translatePixel chip) q x.2) :=
  Prod.ext (replay_hom Prod.fst (fun _ _ => rfl) (fun _ _ => rfl) q x)
    (replay_hom Prod.snd (fun _ _ => rfl) (fun _ _ => rfl) q x)

/-- Two translators that read the same: equal registers and raw bits, over buffers of one length. -/
structure ReadsSame (hpixels : Nat) (x : TranslateState × TranslateState) : Prop where
  ctrl : x.1.ctrl = x.2.ctrl
  rawBits : x.1.buf.rawBits = x.2.buf.rawBits
  lengthFst : x.1.buf.hasLength hpixels
  lengthSnd : x.2.buf.hasLength hpixels

theorem readsSame_applyCtrlBoth {hpixels : Nat} {x : TranslateState × TranslateState} (c : Change)
    (h : ReadsSame hpixels x) : ReadsSame hpixels (applyCtrlBoth x c) :=
  ⟨congrArg (applyCtrlRegs · c) h.ctrl, h.rawBits, h.lengthFst, h.lengthSnd⟩

theorem readsSame_translateBoth {hpixels : Nat} {x : TranslateState × TranslateState} (chip : Chip)
    (p : Nat) (h : ReadsSame hpixels x) : ReadsSame hpixels (translateBoth chip x p) :=
  ⟨h.ctrl, h.rawBits, translatePixel_hasLength _ _ _ _ h.lengthFst,
    translatePixel_hasLength _ _ _ _ h.lengthSnd⟩

/-- Translators that read the same write the same at every position (R142). -/
theorem translatedAt_replay_eq {hpixels p : Nat} (hp : p < hpixels) (chip : Chip) (q : ChangeQueue)
    {x y : TranslateState} (h : ReadsSame hpixels (x, y)) :
    translatedAt (replay hpixels applyCtrl (translatePixel chip) q x).buf p =
      translatedAt (replay hpixels applyCtrl (translatePixel chip) q y).buf p := by
  suffices hside : translatedAt (replay hpixels applyCtrlBoth (translateBoth chip) q (x, y)).1.buf p =
      translatedAt (replay hpixels applyCtrlBoth (translateBoth chip) q (x, y)).2.buf p by
    rwa [replay_translateBoth] at hside
  refine replay_reaches (P := ReadsSame hpixels)
    (Q := fun z => translatedAt z.1.buf p = translatedAt z.2.buf p)
    (fun _ c hz => readsSame_applyCtrlBoth c hz) (fun _ p' hz => readsSame_translateBoth chip p' hz)
    (fun z hz => ?_) (fun _ _ hz => hz) (fun z p' hne hz => ?_) hp q h
  · rw [translateBoth, translatedAt_translatePixel hz.lengthFst hp,
      translatedAt_translatePixel hz.lengthSnd hp, hz.ctrl, hz.rawBits]
  · rw [translateBoth, translatedAt_translatePixel_of_ne hne, translatedAt_translatePixel_of_ne hne, hz]

/-- The translator writes the three buffers of its output only (R131). -/
theorem translate_inputBufs (s : State) :
    s.translate.buf.rawBits = s.buf.rawBits ∧ s.translate.buf.borderFlag = s.buf.borderFlag :=
  replay_keeps (P := fun x : TranslateState =>
    x.buf.rawBits = s.buf.rawBits ∧ x.buf.borderFlag = s.buf.borderFlag) (fun _ _ _ hx => hx)
    (fun _ _ hx => hx) ⟨rfl, rfl⟩

/-- The frame of the translator: its registers, its queue and its three buffers (R142). -/
theorem translate_eq (s : State) :
    s.translate = { s with
      ctrl := s.translate.ctrl
      qCtrl := []
      buf := { s.buf with colorIndex := s.translate.buf.colorIndex
                          multiplexedIndex := s.translate.buf.multiplexedIndex
                          depthTag := s.translate.buf.depthTag } } := by
  have hbuf : s.translate.buf =
      { s.buf with colorIndex := s.translate.buf.colorIndex
                   multiplexedIndex := s.translate.buf.multiplexedIndex
                   depthTag := s.translate.buf.depthTag } := by
    obtain ⟨hraw, hborder⟩ := translate_inputBufs s
    exact LineBufs.ext hraw hborder rfl rfl rfl
  rw [← hbuf]
  rfl

theorem translate_bplcon2 (s : State) :
    s.translate.ctrl.bplcon2 = (((s.qCtrl.filter fun c => decide (c.registerId = .bplcon2)).getLast?).map
      (·.value)).getD s.ctrl.bplcon2 := by
  rw [translate_ctrl]
  exact foldl_last Ctrl.bplcon2 applyCtrlRegs (fun c => decide (c.registerId = .bplcon2)) (·.value)
    (fun st c => by simp [applyCtrlRegs_bplcon2]) _ _

/-- The output is a function of the parameters, the raw bits, `ctrl` and the queue (R142). -/
theorem translatedAt_translate_eq {s t : State} (hs : s.buffersWf) (ht : t.buffersWf)
    (hpar : s.par = t.par) (hraw : s.buf.rawBits = t.buf.rawBits) (hctrl : s.ctrl = t.ctrl)
    (hq : s.qCtrl = t.qCtrl) {p : Nat} (hp : p < s.par.hpixels) :
    translatedAt s.translate.buf p = translatedAt t.translate.buf p := by
  have hside : t.translate.buf =
      (replay s.par.hpixels applyCtrl (translatePixel s.par.chip) s.qCtrl
        { ctrl := t.ctrl, buf := t.buf }).buf := by
    rw [hpar, hq]
    rfl
  rw [hside]
  exact translatedAt_replay_eq hp _ _ ⟨hctrl, hraw, hs, hpar ▸ ht⟩

/-- Settles O29: two lines that the translator reads the same are translated side by side, and what it
leaves of a line is its frame. -/
theorem translationIsStateless : Obligations.TranslationIsStateless := by
  refine ⟨fun s t hs ht hpar hraw hctrl hq => ⟨?_, ?_⟩, fun s => ?_⟩
  · rw [translate_ctrl, translate_ctrl, hctrl, hq]
  · have hat : ∀ p < s.par.hpixels, translatedAt s.translate.buf p = translatedAt t.translate.buf p :=
      fun _ hp => translatedAt_translate_eq hs ht hpar hraw hctrl hq hp
    have hlength : t.translate.buf.hasLength s.par.hpixels := hpar ▸ buffersWf_translate ht
    obtain ⟨-, -, hcolor, hmux, hdepth⟩ := buffersWf_translate hs
    obtain ⟨-, -, hcolor', hmux', hdepth'⟩ := hlength
    exact ⟨buffer_ext hcolor hcolor' fun p hp => congrArg (·.1.1) (hat p hp),
      buffer_ext hmux hmux' fun p hp => congrArg (·.2) (hat p hp),
      buffer_ext hdepth hdepth' fun p hp => congrArg (·.1.2) (hat p hp)⟩
  · exact ⟨translate_eq s, translate_bplcon0 s, translate_bplcon2 s⟩

end Sys2Proof.Machine
end

section
/-! What the sprite units take in (spec/42_sprites_collision.md R151 to R155, R162): the sprite enable
event, the replayed records on the eight units, and the sprites that are not visible. -/

namespace Sys2Proof.Machine

/-! ## The sprite enable event (R155) -/

theorem setWidth_ofBool (on : Bool) : (BitVec.ofBool on).setWidth 16 = if on = true then 1 else 0 := by
  cases on <;> rfl

theorem exec_spren (n : BitVec 3) (on : Bool) (px : Int) (s : State) :
    exec (.spren n on px) s =
      queueSprite n.toFin (.spren n.toFin (sprenMode s.par.sprFetchStart on px))
        (if on = true then 1 else 0) px s := by
  rw [← setWidth_ofBool]
  rfl

/-- Settles O32: the event is a queued write whose record holds the mode. -/
theorem spriteEnableEventsFixTheirMode : Obligations.SpriteEnableEventsFixTheirMode :=
  fun n on px s => queuedWrite_of_checked (exec_spren n on px s)

/-! ## The replayed records on the units (R151 to R155) -/

/-- A record for unit `x` changes that unit only. -/
theorem getElem_set_unit (spr : Vector Sprite 8) (x y : Fin 8) (f : Sprite → Sprite) :
    (spr.set x (f spr[x]))[y] = if y = x then f spr[y] else spr[y] := by
  obtain rfl | hne := Decidable.em (y = x)
  · simp
  · simp [hne, Vector.getElem_set_ne, Fin.val_ne_of_ne (Ne.symm hne)]

/-- Settles O33: each record is one change of its unit. -/
theorem spriteChangesReachTheirUnit : Obligations.SpriteChangesReachTheirUnit := by
  intro spr x y px v after u
  have hunit := getElem_set_unit spr x y
  exact ⟨hunit fun u => { u with pos := v }, hunit fun u => { u with ctl := v, armed := false },
    hunit fun u => { u with dataA := v, armed := true }, hunit fun u => { u with dataB := v },
    hunit (applySpren · .enable), hunit (applySpren · .disableNow),
    hunit (applySpren · .disableNextLine)⟩

/-! ## Visibility (R162) -/

theorem shownSelector_of_hidden {d : SpriteParams} {u : Sprite} {x : Fin 8} {p : Nat}
    (h : visible d u x p = false) : shownSelector d u x p = 0 := if_neg (Bool.eq_false_iff.1 h)

theorem loadIfStart_enabled (p : Nat) (u : Sprite) : (loadIfStart p u).enabled = u.enabled := by
  unfold loadIfStart
  split <;> rfl

theorem visible_loadIfStart (d : SpriteParams) (u : Sprite) (x : Fin 8) (p p' : Nat) :
    visible d (loadIfStart p' u) x p = visible d u x p := by
  rw [visible, loadIfStart_enabled, visible]

theorem setPixel_pixelAt {w : Nat} (b : List (BitVec w)) (p : Nat) : setPixel b p (pixelAt b p) = b := by
  refine buffer_ext (length_setPixel ..) rfl fun q _ => ?_
  rw [pixelAt_setPixel]
  split
  case isTrue h => rw [h.1]
  case isFalse => rfl

theorem pairPixel_zero (k : Fin 4) (att : Bool) (x : SpritePixel) : pairPixel k att 0 0 x = x := by
  cases att <;> rfl

/-- A pair whose sprites contribute nothing leaves the buffers as they are. -/
theorem spritePixel_buf_of_hidden {d : SpriteParams} {k : Fin 4} {t : SpriteState} {p : Nat}
    (he : visible d t.spr[evenSprite k] (evenSprite k) p = false)
    (ho : visible d t.spr[oddSprite k] (oddSprite k) p = false) : (spritePixel d k t p).buf = t.buf := by
  have heven : shownSelector d (loadIfStart p t.spr[evenSprite k]) (evenSprite k) p = 0 :=
    shownSelector_of_hidden ((visible_loadIfStart ..).trans he)
  have hodd : shownSelector d (loadIfStart p t.spr[oddSprite k]) (oddSprite k) p = 0 :=
    shownSelector_of_hidden ((visible_loadIfStart ..).trans ho)
  simp only [spritePixel, heven, hodd, pairPixel_zero, setPixel_pixelAt]

/-- Settles O37, from what a sprite contributes in its window and outside. -/
theorem invisibleSpritesDrawNothing : Obligations.InvisibleSpritesDrawNothing :=
  ⟨fun _ _ _ _ h => shownSelector_eq (fun hin => absurd hin h) fun _ => rfl,
    fun _ _ _ _ hon hshown hbegin hend =>
      shownSelector_eq (fun _ => rfl) fun h => absurd ⟨hon, hshown, hbegin, hend⟩ h,
    fun _ _ _ _ => spritePixel_buf_of_hidden⟩

end Sys2Proof.Machine
end

section
/-! What a pair leaves on a pixel (spec/42_sprites_collision.md R157, R160, R161, R163, R164): its solid
bits, the color of the sprite in front, and the order of two pairs. -/

namespace Sys2Proof.Machine

/-! ## A pair as flags and offers (R157, R161) -/

/-- The pixel with the flags `m` set. -/
def addFlags (m : Tag) (x : SpritePixel) : SpritePixel := (x.1, x.2 ||| m)

/-- The solid bits of a pair (R157). -/
def pairSolid (k : Fin 4) (se so : BitVec 2) : Tag :=
  flagIf (se != 0) (sprSolid (evenSprite k)) ||| flagIf (so != 0) (sprSolid (oddSprite k))

/-- The sprites of a pair that offer a color, in their order, each with its color (R161). -/
def pairOffers (k : Fin 4) (att : Bool) (se so : BitVec 2) : List (Fin 8 × BitVec 7) :=
  if att then
    if se = 0 ∧ so = 0 then [] else [(evenSprite k, attachedColor so se)]
  else
    (if se = 0 then [] else [(evenSprite k, bankColor k se)]) ++
      if so = 0 then [] else [(oddSprite k, bankColor k so)]

/-- A list of offers, one after the other (R160). -/
def offerAll (l : List (Fin 8 × BitVec 7)) (x : SpritePixel) : SpritePixel :=
  l.foldl (fun y o => offer (zSp o.1) o.2 y) x

theorem markSolid_eq_addFlags (x : Fin 8) (sel : BitVec 2) (px : SpritePixel) :
    markSolid x sel px = addFlags (flagIf (sel != 0) (sprSolid x)) px := by
  obtain rfl | hne := Decidable.em (sel = 0)
  · exact Prod.ext rfl BitVec.or_zero.symm
  · rw [markSolid, if_neg hne, bne_iff_ne.2 hne]
    rfl

/-- A pair marks its solid sprites and then makes its offers. -/
theorem pairPixel_eq_offerAll (k : Fin 4) (att : Bool) (se so : BitVec 2) (x : SpritePixel) :
    pairPixel k att se so x = offerAll (pairOffers k att se so) (addFlags (pairSolid k se so) x) := by
  have hmarked : markSolid (oddSprite k) so (markSolid (evenSprite k) se x) =
      addFlags (pairSolid k se so) x := by
    rw [markSolid_eq_addFlags, markSolid_eq_addFlags]
    exact Prod.ext rfl (BitVec.or_assoc ..)
  unfold pairPixel pairOffers
  rw [hmarked]
  dsimp only
  split_ifs <;> rfl

/-- Only the two sprites of the pair offer. -/
theorem sprite_of_mem_pairOffers {k : Fin 4} {att : Bool} {se so : BitVec 2} {o : Fin 8 × BitVec 7}
    (h : o ∈ pairOffers k att se so) : o.1 = evenSprite k ∨ o.1 = oddSprite k := by
  unfold pairOffers at h
  split_ifs at h <;> grind

theorem pairOffers_attached {k : Fin 4} {se so : BitVec 2} (h : se ≠ 0 ∨ so ≠ 0) :
    pairOffers k true se so = [(evenSprite k, attachedColor so se)] := if_neg (not_and_or.2 h)

theorem pairOffers_even {k : Fin 4} {se : BitVec 2} (h : se ≠ 0) (so : BitVec 2) :
    pairOffers k false se so =
      (evenSprite k, bankColor k se) :: if so = 0 then [] else [(oddSprite k, bankColor k so)] :=
  congrArg (· ++ _) (if_neg h)

theorem pairOffers_odd {k : Fin 4} {so : BitVec 2} (h : so ≠ 0) :
    pairOffers k false 0 so = [(oddSprite k, bankColor k so)] := if_neg h

/-- A pair that shows something offers something. -/
theorem pairOffers_ne_nil {k : Fin 4} {att : Bool} {se so : BitVec 2} (h : se ≠ 0 ∨ so ≠ 0) :
    pairOffers k att se so ≠ [] := by
  cases att
  case true =>
    rw [pairOffers_attached h]
    exact List.cons_ne_nil _ _
  case false =>
    obtain rfl | hse := Decidable.em (se = 0)
    · rw [pairOffers_odd (h.resolve_left (not_not.2 rfl))]
      exact List.cons_ne_nil _ _
    · rw [pairOffers_even hse]
      exact List.cons_ne_nil _ _

theorem sprite_lt_of_mem_pairOffers {j k : Fin 4} (hjk : j < k) {a b : Bool} {je jo ke ko : BitVec 2}
    {o o' : Fin 8 × BitVec 7} (h : o ∈ pairOffers j a je jo) (h' : o' ∈ pairOffers k b ke ko) :
    o.1 < o'.1 := by
  have hlow := sprite_of_mem_pairOffers h
  have hhigh := sprite_of_mem_pairOffers h'
  simp only [evenSprite, oddSprite, Fin.ext_iff] at hlow hhigh
  omega

/-! ## What an offer keeps of a tag (R40, R160, R163) -/

/-- An offer changes DEPTH and SPR_UNDER only. -/
theorem tagHas_offer {f : Tag} (hdepth : ~~~depthMask &&& f = f) (hunder : sprUnder &&& f = 0#32)
    (n : Fin 8) (idx : BitVec 7) (x : SpritePixel) :
    tagHas (offer (zSp n) idx x).2 f = tagHas x.2 f := by
  unfold offer
  dsimp only
  split_ifs
  · have hz : tagHas (zSp n) f = false := by
      rw [tagHas_eq_false, ← hdepth, ← BitVec.and_assoc, zSp_outside_depthMask, BitVec.zero_and]
    rw [tagHas_or, hz, Bool.or_false, tagHas, BitVec.and_assoc, hdepth, tagHas]
  · rw [tagHas_or, tagHas_eq_false.2 hunder, Bool.or_false]
  · rfl

theorem tagHas_offerAll {f : Tag} (hdepth : ~~~depthMask &&& f = f) (hunder : sprUnder &&& f = 0#32)
    (l : List (Fin 8 × BitVec 7)) (x : SpritePixel) : tagHas (offerAll l x).2 f = tagHas x.2 f := by
  induction l generalizing x with
  | nil => rfl
  | cons o l ih => exact (ih _).trans (tagHas_offer hdepth hunder ..)

theorem depthOf_addFlags_pairSolid (k : Fin 4) (se so : BitVec 2) (x : SpritePixel) :
    depthOf (addFlags (pairSolid k se so) x).2 = depthOf x.2 := by
  simp [addFlags, pairSolid]

/-- A flag of a tag after a pair's pass: DEPTH and SPR_UNDER apart, the old one or a solid bit. -/
theorem tagHas_pairPixel {f : Tag} (hdepth : ~~~depthMask &&& f = f) (hunder : sprUnder &&& f = 0#32)
    (k : Fin 4) (att : Bool) (se so : BitVec 2) (x : SpritePixel) :
    tagHas (pairPixel k att se so x).2 f = (tagHas x.2 f || tagHas (pairSolid k se so) f) := by
  rw [pairPixel_eq_offerAll, tagHas_offerAll hdepth hunder, addFlags, tagHas_or]

/-- The solid bits of a pair after its pass (R157). -/
theorem tagHas_pairPixel_sprSolid (k : Fin 4) (att : Bool) (se so : BitVec 2) (x : SpritePixel) :
    tagHas (pairPixel k att se so x).2 (sprSolid (evenSprite k)) =
        (tagHas x.2 (sprSolid (evenSprite k)) || se != 0) ∧
      tagHas (pairPixel k att se so x).2 (sprSolid (oddSprite k)) =
        (tagHas x.2 (sprSolid (oddSprite k)) || so != 0) := by
  have hdepth : ∀ y, ~~~depthMask &&& sprSolid y = sprSolid y := by decide
  have hunder : ∀ y, sprUnder &&& sprSolid y = 0#32 := by decide
  have hself : ∀ y, tagHas (sprSolid y) (sprSolid y) = true := by decide
  have hother : ∀ k, tagHas (sprSolid (oddSprite k)) (sprSolid (evenSprite k)) = false ∧
      tagHas (sprSolid (evenSprite k)) (sprSolid (oddSprite k)) = false := by decide
  obtain ⟨hodd, heven⟩ := hother k
  constructor
  · rw [tagHas_pairPixel (hdepth _) (hunder _), pairSolid, tagHas_or, tagHas_flagIf, tagHas_flagIf,
      hself, hodd, Bool.and_true, Bool.and_false, Bool.or_false]
  · rw [tagHas_pairPixel (hdepth _) (hunder _), pairSolid, tagHas_or, tagHas_flagIf, tagHas_flagIf,
      hself, heven, Bool.and_true, Bool.and_false, Bool.false_or]

/-! ## The colors of a pair (R161) -/

theorem attachedColor_toNat (so se : BitVec 2) :
    (attachedColor so se).toNat = 16 + 4 * so.toNat + se.toNat := by
  rw [attachedColor_eq, BitVec.toNat_ofNat]
  omega

theorem bankColor_toNat (k : Fin 4) (sel : BitVec 2) :
    (bankColor k sel).toNat = 16 + 4 * k.val + sel.toNat := by
  rw [bankColor, BitVec.toNat_ofNat]
  omega

/-- An offer where no depth is in front is shown (R160). -/
theorem offer_of_depth_zero {x : SpritePixel} (h : depthOf x.2 = 0) (n : Fin 8) (idx : BitVec 7) :
    (offer (zSp n) idx x).1 = idx ∧ depthOf (offer (zSp n) idx x).2 = zSp n := by
  have hpos : ∀ n, 0 < (zSp n).toNat := by decide
  rw [offer_of_lt (by rw [h]; exact hpos n)]
  exact ⟨rfl, by simp [depthOf_not_depthMask]⟩

/-- An offer behind a sprite changes nothing, in SHRES too (R160, R163). -/
theorem offer_behind_sprite {x : SpritePixel} {n m : Fin 8} (hnm : n < m) (h : depthOf x.2 = zSp n)
    (idx : BitVec 7) : offer (zSp m) idx x = x := by
  have hsprite : ∀ n, isPfDepth (zSp n) = false := by decide
  refine offer_lost (h ▸ (zSp_lt_zSp n m hnm).le) fun ⟨_, hplayfield, _⟩ => ?_
  exact Bool.false_ne_true ((h ▸ hsprite n).symm.trans hplayfield)

/-- Offers that each change nothing change nothing together. -/
theorem offerAll_eq_self {l : List (Fin 8 × BitVec 7)} {x : SpritePixel}
    (h : ∀ o ∈ l, offer (zSp o.1) o.2 x = x) : offerAll l x = x := by
  induction l with
  | nil => rfl
  | cons o l ih =>
    rw [offerAll, List.foldl_cons, h o (List.mem_cons_self ..)]
    exact ih fun o' ho' => h o' (List.mem_cons_of_mem o ho')

/-- Where nothing is in front, the first sprite of a pair that offers is shown. -/
theorem pairPixel_of_offers {k : Fin 4} {att : Bool} {se so : BitVec 2} {x : SpritePixel}
    (hx : depthOf x.2 = 0) {o : Fin 8 × BitVec 7} {l : List (Fin 8 × BitVec 7)}
    (ho : pairOffers k att se so = o :: l) (hbehind : ∀ o' ∈ l, o.1 < o'.1) :
    (pairPixel k att se so x).1 = o.2 ∧ depthOf (pairPixel k att se so x).2 = zSp o.1 := by
  have hempty := (depthOf_addFlags_pairSolid k se so x).trans hx
  obtain ⟨hcolor, hdepth⟩ := offer_of_depth_zero hempty o.1 o.2
  rw [pairPixel_eq_offerAll, ho, offerAll, List.foldl_cons, ← offerAll,
    offerAll_eq_self fun o' ho' => offer_behind_sprite (hbehind o' ho') hdepth o'.2]
  exact ⟨hcolor, hdepth⟩

/-- Settles O38: of the sprites that offer, the first is shown. -/
theorem pairsShowTheirColorBank : Obligations.PairsShowTheirColorBank := by
  intro k att se so x hx y
  have hbehind : ∀ o ∈ if so = 0 then [] else [(oddSprite k, bankColor k so)], evenSprite k < o.1 := by
    split <;> simp [evenSprite, oddSprite]
  obtain ⟨heven, hodd⟩ := tagHas_pairPixel_sprSolid k att se so x
  refine ⟨?_, ?_, ?_, ?_, heven, hodd⟩
  · rintro ⟨rfl, rfl⟩
    exact pairPixel_zero k att x
  · rintro ⟨rfl, hshown⟩
    obtain ⟨hcolor, hdepth⟩ := pairPixel_of_offers hx (pairOffers_attached hshown) (by simp)
    exact ⟨(congrArg BitVec.toNat hcolor).trans (attachedColor_toNat so se), hdepth⟩
  · rintro ⟨rfl, hse⟩
    obtain ⟨hcolor, hdepth⟩ := pairPixel_of_offers hx (pairOffers_even hse so) hbehind
    exact ⟨(congrArg BitVec.toNat hcolor).trans (bankColor_toNat k se), hdepth⟩
  · rintro ⟨rfl, rfl, hso⟩
    obtain ⟨hcolor, hdepth⟩ := pairPixel_of_offers hx (pairOffers_odd hso) (by simp)
    exact ⟨(congrArg BitVec.toNat hcolor).trans (bankColor_toNat k so), hdepth⟩

/-! ## Two pairs outside SHRES (R164) -/

/-- Outside SHRES an offer that loses the depth test changes nothing (R160). -/
theorem offer_eq_self {z : Tag} {idx : BitVec 7} {x : SpritePixel} (hx : tagHas x.2 shresPix = false)
    (h : z.toNat ≤ (depthOf x.2).toNat) : offer z idx x = x :=
  offer_lost h fun hunder => Bool.false_ne_true (hx.symm.trans hunder.1)

/-- The depth after an offer is the larger one, in SHRES too. -/
theorem depthOf_offer_toNat (n : Fin 8) (idx : BitVec 7) (x : SpritePixel) :
    (depthOf (offer (zSp n) idx x).2).toNat = max (depthOf x.2).toNat (zSp n).toNat := by
  obtain hlt | hle := Nat.lt_or_ge (depthOf x.2).toNat (zSp n).toNat
  · rw [offer_of_lt hlt, Nat.max_eq_right hlt.le]
    simp [depthOf_not_depthMask]
  · rw [Nat.max_eq_left hle]
    unfold offer
    rw [if_neg (Nat.not_lt.2 hle)]
    split <;> simp

theorem le_depthOf_offerAll (l : List (Fin 8 × BitVec 7)) (x : SpritePixel) :
    (depthOf x.2).toNat ≤ (depthOf (offerAll l x).2).toNat := by
  induction l generalizing x with
  | nil => exact le_rfl
  | cons o l ih =>
    have hfirst := depthOf_offer_toNat o.1 o.2 x
    exact (hfirst ▸ le_max_left ..).trans (ih _)

/-- No depth is below that of a sprite that has offered. -/
theorem zSp_le_depthOf_offerAll {l : List (Fin 8 × BitVec 7)} {o : Fin 8 × BitVec 7} (ho : o ∈ l)
    (x : SpritePixel) : (zSp o.1).toNat ≤ (depthOf (offerAll l x).2).toNat := by
  induction ho generalizing x with
  | head l =>
    have hfirst := depthOf_offer_toNat o.1 o.2 x
    exact (hfirst ▸ le_max_right ..).trans (le_depthOf_offerAll l _)
  | tail o' _ ih => exact ih _

/-- Two offers of different sprites, in either order: the one with the larger depth is shown. -/
theorem offer_comm {x : SpritePixel} (hx : tagHas x.2 shresPix = false) {n m : Fin 8} (hnm : n < m)
    (a b : BitVec 7) :
    offer (zSp m) b (offer (zSp n) a x) = offer (zSp n) a (offer (zSp m) b x) := by
  have hz := zSp_lt_zSp n m hnm
  obtain hn | hn := Nat.lt_or_ge (depthOf x.2).toNat (zSp n).toNat
  case inl =>
    have hfront : depthOf (offer (zSp n) a x).2 = zSp n := by
      rw [offer_of_lt hn]
      simp [depthOf_not_depthMask]
    rw [offer_behind_sprite hnm hfront]
    obtain hm | hm := Nat.lt_or_ge (depthOf x.2).toNat (zSp m).toNat
    · have hbehind : (depthOf (offer (zSp m) b x).2).toNat < (zSp n).toNat := by
        rw [depthOf_offer_toNat]
        exact max_lt hn hz
      rw [offer_of_lt hbehind, offer_of_lt hn, offer_of_lt hm, BitVec.and_or_distrib_right,
        zSp_outside_depthMask, BitVec.and_assoc, BitVec.and_self, BitVec.or_zero]
    · rw [offer_eq_self hx hm]
  case inr => rw [offer_eq_self hx hn, offer_eq_self hx (hz.le.trans hn), offer_eq_self hx hn]

theorem offer_addFlags {m : Tag} (hm : m &&& ~~~depthMask = m) (hshres : tagHas m shresPix = false)
    {x : SpritePixel} (hx : tagHas x.2 shresPix = false) (z : Tag) (idx : BitVec 7) :
    offer z idx (addFlags m x) = addFlags m (offer z idx x) := by
  have hdepth : depthOf (addFlags m x).2 = depthOf x.2 := by
    rw [addFlags, depthOf_or, ← hm, depthOf_not_depthMask, BitVec.or_zero]
  have hflagged : tagHas (addFlags m x).2 shresPix = false := by
    rw [addFlags, tagHas_or, hx, hshres, Bool.or_false]
  obtain hlt | hle := Nat.lt_or_ge (depthOf x.2).toNat z.toNat
  · rw [offer_of_lt hlt, offer_of_lt (hdepth ▸ hlt), addFlags, addFlags, BitVec.and_or_distrib_right, hm,
      BitVec.or_assoc, BitVec.or_comm m, BitVec.or_assoc]
  · rw [offer_eq_self hx hle, offer_eq_self hflagged (hdepth ▸ hle)]

theorem shresPix_pairSolid : ∀ k se so, tagHas (pairSolid k se so) shresPix = false := by decide

section OutsideShres

variable {x : SpritePixel} (hx : tagHas x.2 shresPix = false)
include hx

theorem shresPix_offer (n : Fin 8) (idx : BitVec 7) : tagHas (offer (zSp n) idx x).2 shresPix = false :=
  (tagHas_offer rfl rfl n idx x).trans hx

theorem shresPix_offerAll (l : List (Fin 8 × BitVec 7)) : tagHas (offerAll l x).2 shresPix = false :=
  (tagHas_offerAll rfl rfl l x).trans hx

theorem offerAll_addFlags {m : Tag} (hm : m &&& ~~~depthMask = m) (hshres : tagHas m shresPix = false)
    (l : List (Fin 8 × BitVec 7)) : offerAll l (addFlags m x) = addFlags m (offerAll l x) := by
  induction l generalizing x with
  | nil => rfl
  | cons o l ih =>
    rw [offerAll, List.foldl_cons, offer_addFlags hm hshres hx]
    exact ih (shresPix_offer hx ..)

theorem offerAll_offer {o : Fin 8 × BitVec 7} {l : List (Fin 8 × BitVec 7)} (h : ∀ o' ∈ l, o.1 < o'.1) :
    offerAll l (offer (zSp o.1) o.2 x) = offer (zSp o.1) o.2 (offerAll l x) := by
  induction l generalizing x with
  | nil => rfl
  | cons o' l ih =>
    rw [offerAll, List.foldl_cons, offer_comm hx (h o' (List.mem_cons_self ..))]
    exact ih (shresPix_offer hx ..) fun o'' ho'' => h o'' (List.mem_cons_of_mem o' ho'')

/-- Offers of sprites with lower numbers and offers of sprites with higher numbers, in either order. -/
theorem offerAll_comm {l l' : List (Fin 8 × BitVec 7)} (h : ∀ o ∈ l, ∀ o' ∈ l', o.1 < o'.1) :
    offerAll l' (offerAll l x) = offerAll l (offerAll l' x) := by
  induction l generalizing x with
  | nil => rfl
  | cons o l ih =>
    have hrest := ih (shresPix_offer hx o.1 o.2) fun o'' ho'' => h o'' (List.mem_cons_of_mem o ho'')
    rw [offerAll_offer hx (h o (List.mem_cons_self ..))] at hrest
    exact hrest

theorem shresPix_addFlags (k : Fin 4) (se so : BitVec 2) :
    tagHas (addFlags (pairSolid k se so) x).2 shresPix = false := by
  rw [addFlags, tagHas_or, hx, shresPix_pairSolid, Bool.or_false]

theorem shresPix_pairPixel (k : Fin 4) (att : Bool) (se so : BitVec 2) :
    tagHas (pairPixel k att se so x).2 shresPix = false := by
  rw [pairPixel_eq_offerAll]
  exact shresPix_offerAll (shresPix_addFlags hx k se so) _

/-- Two pairs in either order: the flags and the offers of the one pass those of the other. -/
theorem pairPixel_comm {j k : Fin 4} (hjk : j < k) (a b : Bool) (je jo ke ko : BitVec 2) :
    pairPixel k b ke ko (pairPixel j a je jo x) = pairPixel j a je jo (pairPixel k b ke ko x) := by
  have hmask : ∀ k se so, pairSolid k se so &&& ~~~depthMask = pairSolid k se so := by decide
  have hflags : addFlags (pairSolid k ke ko) (addFlags (pairSolid j je jo) x) =
      addFlags (pairSolid j je jo) (addFlags (pairSolid k ke ko) x) := by
    simp only [addFlags, BitVec.or_assoc, BitVec.or_comm (pairSolid j je jo)]
  have hj := shresPix_addFlags hx j je jo
  have hk := shresPix_addFlags hx k ke ko
  simp only [pairPixel_eq_offerAll]
  rw [← offerAll_addFlags hj (hmask ..) (shresPix_pairSolid ..),
    ← offerAll_addFlags hk (hmask ..) (shresPix_pairSolid ..), ← hflags]
  exact offerAll_comm (shresPix_addFlags hj ..) fun o ho o' ho' =>
    sprite_lt_of_mem_pairOffers hjk ho ho'

/-- A pair behind a pair that shows something keeps its color (R160). -/
theorem pairPixel_behind {j k : Fin 4} (hjk : j < k) (a b : Bool) {je jo : BitVec 2} (ke ko : BitVec 2)
    (hshown : je ≠ 0 ∨ jo ≠ 0) :
    (pairPixel k b ke ko (pairPixel j a je jo x)).1 = (pairPixel j a je jo x).1 := by
  obtain ⟨o, ho⟩ := List.exists_mem_of_ne_nil _ (pairOffers_ne_nil (k := j) (att := a) hshown)
  have hfront : (zSp o.1).toNat ≤ (depthOf (pairPixel j a je jo x).2).toNat := by
    rw [pairPixel_eq_offerAll]
    exact zSp_le_depthOf_offerAll ho _
  have hlost : ∀ o' ∈ pairOffers k b ke ko,
      offer (zSp o'.1) o'.2 (addFlags (pairSolid k ke ko) (pairPixel j a je jo x)) =
        addFlags (pairSolid k ke ko) (pairPixel j a je jo x) := fun o' ho' => by
    have hlt := zSp_lt_zSp _ _ (sprite_lt_of_mem_pairOffers hjk ho ho')
    refine offer_eq_self (shresPix_addFlags (shresPix_pairPixel hx ..) ..) ?_
    rw [depthOf_addFlags_pairSolid]
    exact hlt.le.trans hfront
  rw [pairPixel_eq_offerAll k, offerAll_eq_self hlost]
  rfl

end OutsideShres

/-- Settles O36: the passes of two pairs commute, and the offers of the pair behind are lost. -/
theorem pairOrderDoesNotMatter : Obligations.PairOrderDoesNotMatter :=
  fun _ _ a b _ _ ke ko _ hjk hx =>
    ⟨pairPixel_comm hx hjk a b _ _ ke ko, pairPixel_behind hx hjk a b ke ko⟩

end Sys2Proof.Machine
end

section
/-! The collision pass (spec/42_sprites_collision.md R165 to R173): which bits of `CLXDAT` each of its
tests sets, put together along the passes. -/

namespace Sys2Proof.Machine

/-! ## Setting bits (R34, R167) -/

/-- `f` sets exactly the bits that `hit` names, and changes no other. -/
structure SetsBits (f : BitVec 15 → BitVec 15) (hit : Nat → Bool) : Prop where
  getLsbD : ∀ clx i, (f clx).getLsbD i = (clx.getLsbD i || hit i)

section SetsBits

variable {f g : BitVec 15 → BitVec 15} {hit hit' : Nat → Bool}

theorem setsBits_setClx (hit : Bool) {bit : Nat} (hbit : bit < 15) :
    SetsBits (setClx hit bit) fun i => hit && i == bit := by
  refine ⟨fun clx i => ?_⟩
  cases hit
  case false => exact (Bool.or_false _).symm
  case true =>
    have hone : (1#15 <<< bit).getLsbD i = (i == bit) := by
      rw [BitVec.getLsbD_shiftLeft, BitVec.getLsbD_one, Bool.eq_iff_iff]
      simp only [Bool.and_eq_true, decide_eq_true_eq, Bool.not_eq_true', decide_eq_false_iff_not,
        beq_iff_eq]
      omega
    rw [setClx, if_pos rfl, BitVec.getLsbD_or, hone]
    rfl

theorem SetsBits.comp (hg : SetsBits g hit') (hf : SetsBits f hit) :
    SetsBits (fun clx => g (f clx)) fun i => hit i || hit' i :=
  ⟨fun clx i => by rw [hg.getLsbD, hf.getLsbD, Bool.or_assoc]⟩

/-- A test that is made only where `cond` holds. -/
theorem SetsBits.ite (hf : SetsBits f hit) (cond : Bool) :
    SetsBits (fun clx => if cond then f clx else clx) fun i => cond && hit i := by
  refine ⟨fun clx i => ?_⟩
  cases cond
  case false => exact (Bool.or_false _).symm
  case true => exact hf.getLsbD clx i

/-- A test that is made for every member of a list. -/
theorem setsBits_foldl {α : Type} {step : BitVec 15 → α → BitVec 15} {hits : α → Nat → Bool}
    {l : List α} (hstep : ∀ a ∈ l, SetsBits (fun clx => step clx a) (hits a)) :
    SetsBits (fun clx => l.foldl step clx) fun i => l.any fun a => hits a i := by
  refine ⟨fun clx i => ?_⟩
  induction l generalizing clx with
  | nil => exact (Bool.or_false _).symm
  | cons a l ih =>
    rw [List.foldl_cons, ih fun b hb => hstep b (List.mem_cons_of_mem a hb),
      (hstep a (List.mem_cons_self ..)).getLsbD, List.any_cons, Bool.or_assoc]

/-- Nothing is cleared. -/
theorem SetsBits.and_eq (hf : SetsBits f hit) (clx : BitVec 15) : clx &&& f clx = clx := by
  refine BitVec.eq_of_getLsbD_eq fun i _ => ?_
  rw [BitVec.getLsbD_and, hf.getLsbD]
  cases clx.getLsbD i <;> rfl

theorem SetsBits.eq_self (hf : SetsBits f hit) (h : ∀ i, hit i = false) (clx : BitVec 15) :
    f clx = clx := by
  refine BitVec.eq_of_getLsbD_eq fun i _ => ?_
  rw [hf.getLsbD, h, Bool.or_false]

end SetsBits

/-! ## The bits each test sets (R169 to R171) -/

/-- The pairs that can collide, with the bit of each two (R169). -/
def collidingPairs : List (Fin 4 × Fin 4 × Nat) :=
  [(0, 1, 9), (0, 2, 10), (0, 3, 11), (1, 2, 12), (1, 3, 13), (2, 3, 14)]

/-- The bits of the sprite-to-sprite tests, where `g k` says that pair `k` is solid (R169). -/
def spriteSpriteHits (g : Fin 4 → Bool) (i : Nat) : Bool :=
  collidingPairs.any fun x => g x.1 && g x.2.1 && i == x.2.2

/-- The tests are made one after the other, in the order of their bits. -/
theorem setsBits_spriteSprite (g : Fin 4 → Bool) : SetsBits (spriteSprite g) (spriteSpriteHits g) := by
  have hbit : ∀ x ∈ collidingPairs, x.2.2 < 15 := by decide
  exact setsBits_foldl fun x hx => setsBits_setClx (g x.1 && g x.2.1) (hbit x hx)

/-- The bits of one pair's tests against one raw value (R170). -/
def spriteRawHits (clxcon : Word) (tag : Tag) (k : Fin 4) (r : BitVec 6) (i : Nat) : Bool :=
  (evenMatch clxcon r && i == 5 + k.val) ||
    ((evenMatch clxcon r || tagHas tag dpfFlag) && (oddMatch clxcon r && i == 1 + k.val))

theorem setsBits_spriteRaw (clxcon : Word) (tag : Tag) (k : Fin 4) (r : BitVec 6) :
    SetsBits (fun clx => spriteRaw clxcon tag k clx r) (spriteRawHits clxcon tag k r) :=
  ((setsBits_setClx _ (by omega)).ite _).comp (setsBits_setClx _ (by omega))

/-- The bits of the sprite-to-playfield tests at a position (R170, R172). -/
def spritePlayfieldHits (clxcon : Word) (g : Fin 4 → Bool) (tag : Tag) (raw : BitVec 6) (i : Nat) :
    Bool :=
  [0, 1, 2, 3].any fun k => g k && (rawsOf tag raw).any fun r => spriteRawHits clxcon tag k r i

theorem setsBits_spritePlayfield (clxcon : Word) (g : Fin 4 → Bool) (tag : Tag) (raw : BitVec 6) :
    SetsBits (spritePlayfield clxcon g tag raw) (spritePlayfieldHits clxcon g tag raw) :=
  setsBits_foldl fun k _ => (setsBits_foldl fun r _ => setsBits_spriteRaw clxcon tag k r).ite (g k)

/-- A bit that is set needs no test (R171). -/
theorem setsBits_playfieldPlayfield (hpixels : Nat) (clxcon : Word) (buf : LineBufs) :
    SetsBits (playfieldPlayfield hpixels clxcon buf) fun i =>
      ((List.range hpixels).any fun p =>
        playfieldsMatch clxcon (pixelAt buf.depthTag p) (pixelAt buf.rawBits p)) && i == 0 := by
  refine ⟨fun clx i => ?_⟩
  unfold playfieldPlayfield
  split
  case isTrue hset =>
    obtain rfl | hne := Decidable.em (i = 0)
    · rw [hset, Bool.true_or]
    · simp only [beq_false_of_ne hne, Bool.and_false, Bool.or_false]
  case isFalse => exact (setsBits_setClx _ (by decide)).getLsbD clx i

/-! ## The bits of the pass (R167, R173) -/

/-- The bits of the sprite tests at position `p` (R167, R173). -/
def collidePixelHits (config : Config) (clxcon : Word) (buf : LineBufs) (p i : Nat) : Bool :=
  let tag := pixelAt buf.depthTag p
  let g := groupSolid clxcon tag
  (config.clxSS && spriteSpriteHits g i) ||
    (config.clxSP && spritePlayfieldHits clxcon g tag (pixelAt buf.rawBits p) i)

theorem setsBits_collidePixel (config : Config) (clxcon : Word) (buf : LineBufs) (p : Nat) :
    SetsBits (fun clx => collidePixel config clxcon buf clx p) (collidePixelHits config clxcon buf p) :=
  ((setsBits_spritePlayfield ..).ite _).comp ((setsBits_spriteSprite _).ite _)

/-- The bits that the pass sets. -/
def State.collideHits (s : State) (i : Nat) : Bool :=
  ((List.range s.par.hpixels).any fun p => collidePixelHits s.config s.reg.clxcon s.buf p i) ||
    (s.config.clxPP && (((List.range s.par.hpixels).any fun p =>
      playfieldsMatch s.reg.clxcon (pixelAt s.buf.depthTag p) (pixelAt s.buf.rawBits p)) && i == 0))

theorem setsBits_collideLine (s : State) :
    SetsBits (collideLine s.par.hpixels s.config s.reg.clxcon s.buf) s.collideHits :=
  ((setsBits_playfieldPlayfield ..).ite _).comp (setsBits_foldl fun p _ => setsBits_collidePixel _ _ _ p)

theorem getLsbD_collide_clxdat (s : State) (i : Nat) :
    s.collide.clxdat.getLsbD i = (s.clxdat.getLsbD i || s.collideHits i) :=
  (setsBits_collideLine s).getLsbD s.clxdat i

/-! ## Which test sets which bit (R34) -/

theorem nine_le_of_mem_collidingPairs : ∀ x ∈ collidingPairs, 9 ≤ x.2.2 := by decide

theorem spriteSpriteHits_of_mem (g : Fin 4 → Bool) {i j : Fin 4} {bit : Nat}
    (h : (i, j, bit) ∈ collidingPairs) : spriteSpriteHits g bit = (g i && g j) := by
  simp only [collidingPairs, List.mem_cons, Prod.mk.injEq, List.not_mem_nil, or_false] at h
  obtain ⟨rfl, rfl, rfl⟩ | ⟨rfl, rfl, rfl⟩ | ⟨rfl, rfl, rfl⟩ | ⟨rfl, rfl, rfl⟩ | ⟨rfl, rfl, rfl⟩ |
    ⟨rfl, rfl, rfl⟩ := h <;> simp [spriteSpriteHits, collidingPairs]

theorem spriteSpriteHits_of_lt (g : Fin 4 → Bool) {i : Nat} (hi : i < 9) :
    spriteSpriteHits g i = false := by
  refine List.any_eq_false.2 fun x hx => ?_
  have hne : i ≠ x.2.2 := (hi.trans_le (nine_le_of_mem_collidingPairs x hx)).ne
  simp [hne]

section SpritePlayfield

variable (clxcon : Word) (g : Fin 4 → Bool) (tag : Tag) (raw : BitVec 6)

/-- The sprite-to-playfield tests set the bits 1 to 8. -/
theorem spritePlayfieldHits_outside {i : Nat} (hi : i = 0 ∨ 9 ≤ i) :
    spritePlayfieldHits clxcon g tag raw i = false := by
  have hraw : ∀ k r, spriteRawHits clxcon tag k r i = false := fun k r => by
    rw [spriteRawHits, beq_false_of_ne (by omega : i ≠ 5 + k.val),
      beq_false_of_ne (by omega : i ≠ 1 + k.val)]
    simp only [Bool.and_false, Bool.or_false]
  simp [spritePlayfieldHits, hraw]

/-- What only the tests of pair `k` set. -/
theorem spritePlayfieldHits_of_pair {i : Nat} (k : Fin 4)
    (h : ∀ k' r, k' ≠ k → spriteRawHits clxcon tag k' r i = false) :
    spritePlayfieldHits clxcon g tag raw i =
      (g k && (rawsOf tag raw).any fun r => spriteRawHits clxcon tag k r i) := by
  have hmem : ∀ k : Fin 4, k ∈ [0, 1, 2, 3] := by decide
  rw [spritePlayfieldHits, Bool.eq_iff_iff, List.any_eq_true]
  refine ⟨?_, fun hk => ⟨k, hmem k, hk⟩⟩
  rintro ⟨k', -, hk'⟩
  obtain rfl | hne := Decidable.em (k' = k)
  · exact hk'
  · simp [h k' _ hne] at hk'

/-- Each pair has a bit of its own. -/
theorem pairBit_beq (n : Nat) (k k' : Fin 4) : (n + k.val == n + k'.val) = (k == k') := by
  rw [Bool.eq_iff_iff, beq_iff_eq, beq_iff_eq, Nat.add_left_cancel_iff, Fin.ext_iff]

/-- The bits 5 to 8: playfield 2 matches (R170). -/
theorem spritePlayfieldHits_even (k : Fin 4) :
    spritePlayfieldHits clxcon g tag raw (5 + k.val) =
      (g k && (rawsOf tag raw).any (evenMatch clxcon)) := by
  have hraw : ∀ k' r, spriteRawHits clxcon tag k' r (5 + k.val) = (evenMatch clxcon r && k == k') :=
    fun k' r => by
      rw [spriteRawHits, pairBit_beq, beq_false_of_ne (by omega : 5 + k.val ≠ 1 + k'.val)]
      simp only [Bool.and_false, Bool.or_false]
  rw [spritePlayfieldHits_of_pair _ _ _ _ k fun k' r hne => by simp [hraw, Ne.symm hne]]
  simp only [hraw, beq_self_eq_true, Bool.and_true]

/-- The bits 1 to 4: playfield 1 matches, and playfield 2 where it decides (R170). -/
theorem spritePlayfieldHits_odd (k : Fin 4) :
    spritePlayfieldHits clxcon g tag raw (1 + k.val) =
      (g k && (rawsOf tag raw).any fun r =>
        oddMatch clxcon r && (evenMatch clxcon r || tagHas tag dpfFlag)) := by
  have hraw : ∀ k' r, spriteRawHits clxcon tag k' r (1 + k.val) =
      ((oddMatch clxcon r && (evenMatch clxcon r || tagHas tag dpfFlag)) && k == k') := fun k' r => by
    rw [spriteRawHits, pairBit_beq, beq_false_of_ne (by omega : 1 + k.val ≠ 5 + k'.val), Bool.and_false,
      Bool.false_or, ← Bool.and_assoc, Bool.and_comm (oddMatch clxcon r)]
  rw [spritePlayfieldHits_of_pair _ _ _ _ k fun k' r hne => by simp [hraw, Ne.symm hne]]
  simp only [hraw, beq_self_eq_true, Bool.and_true]

end SpritePlayfield

/-! ## The flags of a tag, bit by bit (R40, R168) -/

theorem tagHas_shiftLeft {i : Nat} (hi : i < 32) (t : Tag) : tagHas t (1#32 <<< i) = t.getLsbD i := by
  have hset : ∀ i < 32, (BitVec.twoPow 32 i != 0#32) = true := by decide
  rw [tagHas, ← BitVec.twoPow_eq, BitVec.and_twoPow]
  cases t.getLsbD i
  case false => rfl
  case true => exact hset i hi

theorem tagHas_shresPix (t : Tag) : tagHas t shresPix = t.getLsbD 5 :=
  tagHas_shiftLeft (i := 5) (by decide) t

theorem tagHas_dpfFlag (t : Tag) : tagHas t dpfFlag = t.getLsbD 2 :=
  tagHas_shiftLeft (i := 2) (by decide) t

theorem tagHas_sprSolid (t : Tag) (x : Fin 8) : tagHas t (sprSolid x) = t.getLsbD (8 + x.val) :=
  tagHas_shiftLeft (by omega) t

/-- A pair is solid where one of its sprites is, the odd one only if `CLXCON` takes it in (R168). -/
theorem groupSolid_eq (clxcon : Word) (t : Tag) (k : Fin 4) :
    groupSolid clxcon t k =
      (t.getLsbD (8 + 2 * k.val) || (clxcon.getLsbD (12 + k.val) && t.getLsbD (9 + 2 * k.val))) := by
  have hodd : 8 + (2 * k.val + 1) = 9 + 2 * k.val := by omega
  rw [groupSolid, tagHas_sprSolid, tagHas_sprSolid, evenSprite, oddSprite, hodd]
  rfl

theorem rawsOf_eq (t : Tag) (r : BitVec 6) :
    rawsOf t r = if t.getLsbD 5 = true then [r &&& 0x3#6, (r >>> 2) &&& 0x3#6] else [r] := by
  rw [rawsOf, tagHas_shresPix]

/-! ## The bits of the pass, test by test (R169 to R171) -/

/-- The sprite-to-sprite bits. -/
theorem collideHits_spriteSprite (s : State) {i j : Fin 4} {bit : Nat}
    (h : (i, j, bit) ∈ collidingPairs) :
    s.collideHits bit = (s.config.clxSS && (List.range s.par.hpixels).any fun p =>
      groupSolid s.reg.clxcon (pixelAt s.buf.depthTag p) i &&
        groupSolid s.reg.clxcon (pixelAt s.buf.depthTag p) j) := by
  have hge : 9 ≤ bit := nine_le_of_mem_collidingPairs _ h
  simp only [State.collideHits, collidePixelHits, spriteSpriteHits_of_mem _ h,
    spritePlayfieldHits_outside _ _ _ _ (.inr hge), beq_false_of_ne (by omega : bit ≠ 0), Bool.and_false,
    Bool.or_false, List.and_any_distrib_left]

/-- A sprite-to-playfield bit comes from the tests of the pairs against the playfields. -/
theorem collideHits_spritePlayfield (s : State) {i : Nat} (hlow : 0 < i) (hhigh : i < 9) :
    s.collideHits i = (s.config.clxSP && (List.range s.par.hpixels).any fun p =>
      spritePlayfieldHits s.reg.clxcon (groupSolid s.reg.clxcon (pixelAt s.buf.depthTag p))
        (pixelAt s.buf.depthTag p) (pixelAt s.buf.rawBits p) i) := by
  simp only [State.collideHits, collidePixelHits, spriteSpriteHits_of_lt _ hhigh,
    beq_false_of_ne (Nat.ne_of_gt hlow), Bool.and_false, Bool.false_or, Bool.or_false,
    List.and_any_distrib_left]

/-- The playfield bit. -/
theorem collideHits_playfieldPlayfield (s : State) :
    s.collideHits 0 = (s.config.clxPP && (List.range s.par.hpixels).any fun p =>
      playfieldsMatch s.reg.clxcon (pixelAt s.buf.depthTag p) (pixelAt s.buf.rawBits p)) := by
  have hsprites : ((List.range s.par.hpixels).any fun p =>
      collidePixelHits s.config s.reg.clxcon s.buf p 0) = false := by
    refine List.any_eq_false.2 fun p _ => ?_
    simp [collidePixelHits, spriteSpriteHits_of_lt, spritePlayfieldHits_outside]
  rw [State.collideHits, hsprites, Bool.false_or, beq_self_eq_true, Bool.and_true]

/-- No kind of test, no bit (R173). -/
theorem collideHits_off {s : State} (hss : s.config.clxSS = false) (hsp : s.config.clxSP = false)
    (hpp : s.config.clxPP = false) (i : Nat) : s.collideHits i = false := by
  simp only [State.collideHits, collidePixelHits, hss, hsp, hpp, Bool.false_and, Bool.or_false]
  exact List.any_eq_false.2 fun _ _ => Bool.false_ne_true

/-! ## The statements -/

/-- Settles O40: the bit of two pairs is set where both are solid. -/
theorem spriteSpriteCollisionsSetTheirBit : Obligations.SpriteSpriteCollisionsSetTheirBit := by
  intro s i j bit h solid
  rw [getLsbD_collide_clxdat, collideHits_spriteSprite s h]
  simp only [groupSolid_eq]
  rfl

/-- Settles O41: the bits of a pair, each from the raw values that its test takes. -/
theorem spritePlayfieldCollisionsSetTheirBits : Obligations.SpritePlayfieldCollisionsSetTheirBits := by
  intro s k en mv odd even tag raws solid
  have hsolid : ∀ p, groupSolid s.reg.clxcon (tag p) k = solid p := fun p => groupSolid_eq ..
  have hraws : ∀ p, rawsOf (tag p) (pixelAt s.buf.rawBits p) = raws p := fun p => rawsOf_eq ..
  constructor
  · rw [getLsbD_collide_clxdat, collideHits_spritePlayfield s (by omega) (by omega)]
    simp only [spritePlayfieldHits_even, ← hsolid, ← hraws]
    rfl
  · rw [getLsbD_collide_clxdat, collideHits_spritePlayfield s (by omega) (by omega)]
    simp only [spritePlayfieldHits_odd, ← hsolid, ← hraws, ← tagHas_dpfFlag]
    rfl

/-- Settles O42, from the bits that the pass sets. -/
theorem collisionPassOnlySetsBits : Obligations.CollisionPassOnlySetsBits := by
  intro s en mv odd even raws
  refine ⟨?_, rfl, (setsBits_collideLine s).and_eq s.clxdat, fun hss hsp hpp => ?_⟩
  · rw [getLsbD_collide_clxdat, collideHits_playfieldPlayfield]
    simp only [playfieldsMatch, rawsOf_eq]
    rfl
  · exact (setsBits_collideLine s).eq_self (collideHits_off hss hsp hpp) s.clxdat

end Sys2Proof.Machine
end

section
/-! The palette (spec/43_color_framebuffer.md R186, R187), the hide-layer pass (R201 to R203), and the
frame that has just ended, read back from the ring (R206 to R208). -/

namespace Sys2Proof.Machine

/-! ## The half-bright form of a color (R186) -/

/-- No bit of a channel comes into the channel below: the mask keeps three bits of each. -/
theorem halfBright_channel (c : Color) (j : Fin 3) :
    (halfBright c).extractLsb' (4 * j.val) 4 = c.extractLsb' (4 * j.val) 4 >>> 1 := by
  have hmask : ∀ j : Fin 3, (0x777#12).extractLsb' (4 * j.val) 4 = 0x7#4 := by decide
  have hkept : ∀ i < 4, (0x7#4).getLsbD i = decide (1 + i < 4) := by decide
  rw [halfBright, BitVec.extractLsb'_and, hmask]
  refine BitVec.eq_of_getLsbD_eq fun i hi => ?_
  rw [BitVec.getLsbD_and, hkept i hi, BitVec.getLsbD_ushiftRight, BitVec.getLsbD_extractLsb',
    BitVec.getLsbD_extractLsb', BitVec.getLsbD_ushiftRight, decide_eq_true hi, Bool.true_and,
    Bool.and_comm, Nat.add_left_comm]

theorem halfBright_channel_toNat (c : Color) (j : Fin 3) :
    ((halfBright c).extractLsb' (4 * j.val) 4).toNat = (c.extractLsb' (4 * j.val) 4).toNat / 2 := by
  rw [halfBright_channel, BitVec.toNat_ushiftRight, Nat.shiftRight_eq_div_pow, pow_one]

/-! ## The palette (R187) -/

theorem pal_register (lut : Vector Device 4096) (color : Vector Color 32) {i : Nat} (h : i < 32) :
    pal lut color (BitVec.ofNat 7 i) = lut[color[i].toFin] := by
  have hindex : (BitVec.ofNat 7 i).toNat = i := Nat.mod_eq_of_lt (by omega)
  simp only [pal, hindex, h, dite_true]

theorem pal_halfBright (lut : Vector Device 4096) (color : Vector Color 32) {i : Nat} (h : i < 32) :
    pal lut color (BitVec.ofNat 7 (32 + i)) = lut[(halfBright color[i]).toFin] := by
  have hindex : (BitVec.ofNat 7 (32 + i)).toNat = 32 + i := Nat.mod_eq_of_lt (by omega)
  simp only [pal, hindex, show ¬ 32 + i < 32 by omega, show 32 + i < 64 by omega, dite_true,
    dite_false, Nat.add_sub_cancel_left]

theorem pal_black (lut : Vector Device 4096) (color : Vector Color 32) :
    pal lut color 64 = 0xFF000000#32 := rfl

/-- Under the table invariant an entry is the value of the configured function (R43, R188). -/
theorem State.lutWf.entry {s : State} (h : s.lutWf) (c : Color) :
    s.lut[c.toFin] = lutOf s.config.lut s.config.monitor c := by
  obtain ⟨-, -, -, htable⟩ := lookupTableScalesChannels
  rw [State.lutWf] at h
  rw [h, htable]

/-- Settles O45, range by range of the palette index. -/
theorem paletteFollowsTheColorRegisters : Obligations.PaletteFollowsTheColorRegisters := by
  refine ⟨fun s hlut => ⟨fun i hi => ?_, fun i hi => ?_, pal_black ..⟩, halfBright_channel_toNat⟩
  · rw [pal_register _ _ hi, hlut.entry]
  · rw [pal_halfBright _ _ hi, hlut.entry, halfBright]

/-! ## The blend (R201) -/

/-- A weighted mean of two bytes fits a byte. -/
theorem blendByte_toNat (o c k : BitVec 8) :
    (blendByte o c k).toNat = (o.toNat * c.toNat + (255 - o.toNat) * k.toNat) / 255 := by
  refine Nat.mod_eq_of_lt (Nat.lt_succ_of_le (Nat.div_le_of_le_mul ?_))
  have hc : o.toNat * c.toNat ≤ o.toNat * 255 := Nat.mul_le_mul_left _ (by omega)
  have hk : (255 - o.toNat) * k.toNat ≤ (255 - o.toNat) * 255 := Nat.mul_le_mul_left _ (by omega)
  omega

theorem blendByte_opaque (c k : BitVec 8) : blendByte 255 c k = c := by
  refine BitVec.eq_of_toNat_eq ?_
  have hopaque : (255 : BitVec 8).toNat = 255 := rfl
  rw [blendByte_toNat, hopaque]
  omega

theorem blendByte_transparent (c k : BitVec 8) : blendByte 0 c k = k := by
  refine BitVec.eq_of_toNat_eq ?_
  have htransparent : (0 : BitVec 8).toNat = 0 := rfl
  rw [blendByte_toNat, htransparent]
  omega

theorem blend_alpha (c k : Device) (o : BitVec 8) : (blend c k o).extractLsb' 24 8 = 0xFF#8 :=
  BitVec.extractLsb'_append_eq_left

theorem blend_channel (c k : Device) (o : BitVec 8) (j : Fin 3) :
    (blend c k o).extractLsb' (8 * j.val) 8 =
      blendByte o (c.extractLsb' (8 * j.val) 8) (k.extractLsb' (8 * j.val) 8) := by
  rw [blend, BitVec.extractLsb'_append_eq_of_add_le (by omega)]
  fin_cases j
  · exact (BitVec.extractLsb'_append_eq_of_add_le (by decide)).trans BitVec.extractLsb'_append_eq_right
  · exact (BitVec.extractLsb'_append_eq_of_add_le (by decide)).trans BitVec.extractLsb'_append_eq_left
  · exact BitVec.extractLsb'_append_eq_left

/-- A device color is its three channels and its alpha (R63). -/
theorem device_eq_of_channels {c d : Device} (halpha : c.extractLsb' 24 8 = d.extractLsb' 24 8)
    (hchannel : ∀ j : Fin 3, c.extractLsb' (8 * j.val) 8 = d.extractLsb' (8 * j.val) 8) : c = d := by
  refine BitVec.eq_of_getLsbD_eq fun i hi => ?_
  have hbyte : c.extractLsb' (8 * (i / 8)) 8 = d.extractLsb' (8 * (i / 8)) 8 := by
    obtain hcolor | hlast : i / 8 < 3 ∨ i / 8 = 3 := by omega
    · exact hchannel ⟨i / 8, hcolor⟩
    · rw [hlast]; exact halpha
  simpa [BitVec.getLsbD_extractLsb', Nat.mod_lt, Nat.div_add_mod] using
    congrArg (BitVec.getLsbD · (i % 8)) hbyte

theorem blend_opaque {c : Device} (k : Device) (h : c.extractLsb' 24 8 = 0xFF#8) :
    blend c k 255 = c :=
  device_eq_of_channels ((blend_alpha ..).trans h.symm) fun j => by
    rw [blend_channel, blendByte_opaque]

theorem blend_transparent (c : Device) {k : Device} (h : k.extractLsb' 24 8 = 0xFF#8) :
    blend c k 0 = k :=
  device_eq_of_channels ((blend_alpha ..).trans h.symm) fun j => by
    rw [blend_channel, blendByte_transparent]

/-! ## The layer of a pixel (R202) -/

theorem eq_zSp_of_spriteOfDepth {d : Tag} {n : Fin 8} (h : spriteOfDepth d = some n) : d = zSp n := by
  unfold spriteOfDepth at h
  split_ifs at h <;> cases h <;> assumption

/-- The sprite depths and the playfield depths are apart (R41), so R202 may ask for either first. -/
theorem spriteOfDepth_of_isPfDepth {d : Tag} (h : isPfDepth d = true) : spriteOfDepth d = none := by
  have hsprite : ∀ n, isPfDepth (zSp n) = false := by decide
  refine Option.eq_none_iff_forall_ne_some.2 fun n hn => ?_
  rw [eq_zSp_of_spriteOfDepth hn, hsprite] at h
  exact Bool.false_ne_true h

theorem tagHas_visPf2 (t : Tag) : tagHas t visPf2 = t.getLsbD 4 :=
  tagHas_shiftLeft (i := 4) (by decide) t

theorem layerOf_eq (tag : Tag) :
    layerOf tag =
      if isPfDepth (depthOf tag) = true then some (if tag.getLsbD 4 = true then 9 else 8)
      else (spriteOfDepth (depthOf tag)).map (·.val) := by
  rw [layerOf, tagHas_visPf2]
  by_cases hpf : isPfDepth (depthOf tag) = true
  · rw [spriteOfDepth_of_isPfDepth hpf, if_pos hpf, if_pos hpf]
  · rw [if_neg hpf, if_neg hpf]
    cases spriteOfDepth (depthOf tag) <;> rfl

/-! ## The hide-layer pass (R201) -/

theorem hiddenHere_eq (layers : BitVec 10) (x : PixelInput) :
    hiddenHere layers x = (!x.isBorder && (layerOf x.tag).any fun l => layers.getLsbD l) := by
  unfold hiddenHere
  cases layerOf x.tag <;> rfl

theorem hiddenHere_zero (x : PixelInput) : hiddenHere 0 x = false := by
  rw [hiddenHere_eq]
  cases layerOf x.tag <;> simp

theorem getElem?_hideFrom (config : Config) (vpos : Word) (buf : LineBufs) (p i : Nat)
    (cells : List Cell) :
    (hideFrom config vpos buf p cells)[i]? =
      cells[i]?.map (hidePixel config vpos (pixelInput buf (p + i)) (p + i)) := by
  induction cells generalizing p i with
  | nil => rfl
  | cons c cells ih =>
    cases i with
    | zero => rfl
    | succ i =>
      rw [hideFrom, List.getElem?_cons_succ, ih, List.getElem?_cons_succ, Nat.add_assoc, Nat.add_comm 1]

/-- A cell of the pass, with no layer hidden too: then `hidePixel` leaves the cell as it is. -/
theorem getElem?_hidePass (s : State) (cells : List Cell) (p : Nat) :
    (s.hidePass cells)[p]? =
      cells[p]?.map (hidePixel s.config s.curVpos (pixelInput s.buf p) p) := by
  unfold State.hidePass
  split
  case isTrue h =>
    have hid : hidePixel s.config s.curVpos (pixelInput s.buf p) p = id := by
      funext cell
      rw [hidePixel, h, hiddenHere_zero, if_neg Bool.false_ne_true, id]
    rw [hid, Option.map_id, id]
  case isFalse => rw [getElem?_hideFrom, Nat.zero_add]

/-- Settles O50, from the cell of the pass and the bytes of a blend. -/
theorem hideLayerPassBlendsTowardTheCheckerboard :
    Obligations.HideLayerPassBlendsTowardTheCheckerboard := by
  refine ⟨fun s cells h => if_pos h, fun s cells p h => ?_, fun c k o j => ?_,
    blend_alpha, fun c k => blend_opaque k, fun c k => blend_transparent c⟩
  · intro tag board layer hidden
    have hhidden : hiddenHere s.config.hiddenLayers (pixelInput s.buf p) = hidden := by
      rw [hiddenHere_eq, layerOf_eq]
      rfl
    rw [getElem?_hidePass, List.getElem?_eq_getElem h, Option.map_some, hidePixel, hhidden]
    rfl
  · rw [blend_channel, blendByte_toNat]

/-! ## The frame that has just ended (R206 to R208) -/

theorem exec_eof {s : State} (hframe : s.frameActive = true) (hline : s.lineActive = false) :
    exec .eof s = .next { s.rotate with frameActive := false } :=
  checked_none (if_neg (by simp [hframe, hline]))

/-- The buffer that was the write target keeps its cells and takes the tags of the frame (R207). -/
theorem bufferAt_rotate {s : State} (h : s.writeIndex < s.fb.length) :
    bufferAt s.rotate.fb s.writeIndex = { bufferAt s.fb s.writeIndex with
      nr := s.frameCounter, lof := s.curLof, lace := lace s.reg.bplcon0 } :=
  (bufferAt_set ..).trans (if_pos ⟨rfl, h⟩)

/-- Two places of the ring whose next places are the same are the same. -/
theorem ring_succ_injective {n b w : Nat} (hb : b < n) (hw : w < n)
    (h : (b + 1) % n = (w + 1) % n) : b = w :=
  (Nat.ModEq.add_right_cancel' 1 h).eq_of_lt_of_lt hb hw

/-- Settles O56: STABLE 0 returns the buffer one place before the write target, which is the one that
EOF has just left. -/
theorem endedFramesBecomeStable : Obligations.EndedFramesBecomeStable := by
  rintro s ⟨hring, -⟩ hlength hindex hframe hline hcounter
  have hcounted : (0#16).toNat < (s.frameCounter + 1).toNat := by bv_omega
  have hnext : (s.writeIndex + 1) % s.par.nFb < s.par.nFb := Nat.mod_lt _ (by omega)
  obtain ⟨hstable, -⟩ := stableReturnsASnapshot { s.rotate with frameActive := false } 0
  obtain ⟨b, hb, -, hback, hexec⟩ := hstable hring hcounted hnext
  obtain rfl : b = s.writeIndex := ring_succ_injective hb hindex hback
  exact ⟨_, _, exec_eof hframe hline, hexec, by simp [bufferAt_rotate (hlength ▸ hindex), lace]⟩

end Sys2Proof.Machine
end

section
/-! The operation that a step performs (spec/44_line_frame_control.md R235), RESET (R225, R265, R266),
and the operations that begin and end frames and lines or change the configuration (R226, R227, R229,
R231). -/

namespace Sys2Proof.Machine

/-! ## The performed operation (R235) -/

/-- A step on a legal word. -/
theorem step_instr {s : State} {op : HostOp} {rest : List HostOp} {i : Instr}
    (hfatal : s.fatal = none) (hinput : s.input = op :: rest) (hop : decode op = .instr i) :
    step s = exec i s.popInput := by
  unfold step
  rw [hfatal, hinput]
  simp only [hop]

/-- Settles O5, from the branch of the step that performs. -/
theorem stepRunsTheDecodedOperation : Obligations.StepRunsTheDecodedOperation := by
  intro s op rest i hfatal hinput hop
  rw [step_instr hfatal hinput hop, State.popInput, hinput, List.tail_cons]

/-! ## RESET (R225, R265, R266) -/

theorem exec_reset (s : State) : exec .reset s = .next s.afterReset := rfl

theorem afterReset_of_zero {s : State} (h : s.par.resetPolicy = .zero) :
    s.afterReset = s.resetItems (resetSource .zero s.freeCount) := by
  simp only [State.afterReset, h]

theorem afterReset_of_arbitrary {s : State} (h : s.par.resetPolicy = .arbitrary) :
    s.afterReset = (s.resetItems (resetSource .arbitrary s.freeCount)).drawFree := by
  simp only [State.afterReset, h]

/-- Under the policy `zero` every item marked "(R)" is 0 (R265). -/
@[simp] theorem resetSource_zero (n : Nat) (item : ResetItem) : resetSource .zero n item = 0 := rfl

@[simp] theorem resetWord_zero (n : Nat) (item : ResetItem) :
    resetWord (resetSource .zero n) item = 0 := rfl

theorem resetSprite_zero (n : Nat) : resetSprite (resetSource .zero n) = fun _ => Sprite.reset := by
  funext x
  simp [resetSprite, Sprite.reset]

theorem vector_ofFn_const {α : Type} (n : Nat) (a : α) :
    Vector.ofFn (fun _ : Fin n => a) = Vector.replicate n a := by
  ext i hi
  rw [Vector.getElem_ofFn, Vector.getElem_replicate]

/-- Under the policy `zero` the frame buffers are those of R44. -/
theorem resetItems_fb_zero {s : State} (h : s.par.resetPolicy = .zero) (src : ResetItem → BitVec 64) :
    (s.resetItems src).fb = List.replicate s.par.nFb FrameBuffer.reset := by
  simp [State.resetItems, resetCells, h, FrameBuffer.reset, List.map_const']

/-- With every open item 0, a reset leaves the reset state's value in every item but the configuration
(R225, R265). -/
theorem resetItems_zero {s : State} (h : s.par.resetPolicy = .zero) (n : Nat) :
    s.resetItems (resetSource .zero n) = { State.reset with
      par := s.par, config := s.config
      lut := lutTable s.config.lut s.config.monitor
      buf := LineBufs.cleared s.par.hpixels
      fb := List.replicate s.par.nFb FrameBuffer.reset
      input := s.input, responses := s.responses, freeCount := s.freeCount } := by
  rw [← resetItems_fb_zero h (resetSource .zero n)]
  simp [State.resetItems, State.reset, resetSprite_zero, vector_ofFn_const]

/-- The items of a sprite unit that are not marked "(R)" have their reset values (R38, R266). -/
theorem resetItems_spr (s : State) (src : ResetItem → BitVec 64) :
    ∀ u ∈ (s.resetItems src).spr, u.shiftA = 0 ∧ u.shiftB = 0 ∧ u.half = false ∧ u.enabled = true ∧
      u.pendingDisable = false := by
  intro u hu
  obtain ⟨x, rfl⟩ := Vector.mem_ofFn.1 hu
  exact ⟨rfl, rfl, rfl, rfl, rfl⟩

/-- The tags of the frame buffers have their reset values (R44, R266). -/
theorem resetItems_fb_tags (s : State) (src : ResetItem → BitVec 64) :
    ∀ f ∈ (s.resetItems src).fb, f.nr = 0 ∧ f.lof = false ∧ f.lace = false := by
  intro f hf
  obtain ⟨b, -, rfl⟩ := List.mem_map.1 hf
  exact ⟨rfl, rfl, rfl⟩

theorem resetItems_fb_length (s : State) (src : ResetItem → BitVec 64) :
    (s.resetItems src).fb.length = s.par.nFb := by
  simp [State.resetItems]

/-- Settles O51: under `zero` the source of the open items is 0; under `arbitrary` no other item reads
the source. -/
theorem resetPutsItemsToTheirResetValues : Obligations.ResetPutsItemsToTheirResetValues := by
  refine ⟨fun s hzero => ?_, fun s harbitrary => ⟨s.afterReset, exec_reset s, ?_⟩⟩
  · rw [exec_reset, afterReset_of_zero hzero, resetItems_zero hzero]
  · have hqueues := afterReset_queues s
    rw [afterReset_of_arbitrary harbitrary] at hqueues ⊢
    exact ⟨rfl, rfl, rfl, rfl, rfl, rfl, rfl, resetItems_spr s _, hqueues, rfl,
      resetItems_fb_length s _, resetItems_fb_tags s _, rfl, rfl, rfl, rfl, rfl, rfl, rfl, rfl, rfl,
      rfl, rfl, rfl, rfl, rfl, rfl⟩

/-! ## Frames (R226, R229) -/

theorem exec_bof_error {s : State} (lof : Bool) (h : s.frameActive = true ∨ s.lineActive = true) :
    exec (.bof lof) s = .next (s.raiseFatal .sequenceError) :=
  checked_some (if_pos (by simpa using h))

theorem exec_bof {s : State} (lof : Bool) (hframe : s.frameActive = false)
    (hline : s.lineActive = false) :
    exec (.bof lof) s = .next { s with frameActive := true, curLof := lof } :=
  checked_none (if_neg (by simp [hframe, hline]))

theorem exec_eof_error {s : State} (h : s.frameActive = false ∨ s.lineActive = true) :
    exec .eof s = .next (s.raiseFatal .sequenceError) :=
  checked_some (if_pos (by simpa using h))

/-- Settles O52: each operation runs one check before its effect, and EOF's effect rotates the ring
(R207). -/
theorem framesBeginAndEndInOrder : Obligations.FramesBeginAndEndInOrder :=
  fun _ => ⟨exec_bof_error, exec_bof, exec_eof_error, exec_eof⟩

/-! ## The begin of a line (R174, R227) -/

theorem exec_bol_sequenceError {s : State} (vpos : Word) (v d : Bool)
    (h : s.frameActive = false ∨ s.lineActive = true) :
    exec (.bol vpos v d) s = .next (s.raiseFatal .sequenceError) :=
  checked_some (if_pos (by simpa using h))

/-- The checks of BOL where the sequence is right: only that of the queues is left (R227). -/
theorem bolCheck_inSequence {s : State} (hframe : s.frameActive = true) (hline : s.lineActive = false) :
    (if !s.frameActive || s.lineActive then some .sequenceError
      else if s.queuesEmpty then none else some .queueNotEmpty) =
    if s.queuesEmpty then none else some FatalKind.queueNotEmpty :=
  if_neg (by simp [hframe, hline])

theorem exec_bol_queueNotEmpty {s : State} (vpos : Word) (v d : Bool) (hframe : s.frameActive = true)
    (hline : s.lineActive = false) (hqueues : ∃ q ∈ s.queues, q ≠ []) :
    exec (.bol vpos v d) s = .next (s.raiseFatal .queueNotEmpty) := by
  have hfull : ¬ s.queuesEmpty = true := by simpa [queuesEmpty_iff] using hqueues
  exact checked_some ((bolCheck_inSequence hframe hline).trans (if_neg hfull))

theorem exec_bol {s : State} (vpos : Word) (v d : Bool) (hframe : s.frameActive = true)
    (hline : s.lineActive = false) (hqueues : ∀ q ∈ s.queues, q = []) :
    exec (.bol vpos v d) s = .next (s.beginLine vpos v d) :=
  checked_none ((bolCheck_inSequence hframe hline).trans (if_pos (queuesEmpty_iff.2 hqueues)))

/-- Without a pending disable a unit stays as enabled as it was (R174). -/
theorem spriteLineStart_eq (u : Sprite) : spriteLineStart u = { u with
    shiftA := 0, shiftB := 0, half := false
    enabled := u.enabled && !u.pendingDisable, pendingDisable := false } := by
  unfold spriteLineStart
  split
  case isTrue hpending => simp [hpending]
  case isFalse hstays => simp [hstays]

theorem beginLine_clipBegin (s : State) (vpos : Word) (v d : Bool) :
    (s.beginLine vpos v d).clipBegin = if d then s.par.clipDma.first else s.par.clipNoDma.first :=
  apply_ite ClipWindow.first ..

theorem beginLine_clipEnd (s : State) (vpos : Word) (v d : Bool) :
    (s.beginLine vpos v d).clipEnd = if d then s.par.clipDma.stop else s.par.clipNoDma.stop :=
  apply_ite ClipWindow.stop ..

/-- Settles O53: the checks one after the other, then the line's flags, window, buffers and units. -/
theorem linesBeginWithClearedBuffers : Obligations.LinesBeginWithClearedBuffers := by
  refine fun s vpos v d => ⟨exec_bol_sequenceError vpos v d, exec_bol_queueNotEmpty vpos v d,
    fun hframe hline hqueues => ?_⟩
  rw [exec_bol vpos v d hframe hline hqueues, ← funext spriteLineStart_eq,
    ← beginLine_clipBegin s vpos v d, ← beginLine_clipEnd s vpos v d]
  rfl

/-! ## CONFIG (R231) -/

theorem exec_config_error {s : State} (u : ConfigUpdate) (hline : s.lineActive = true) :
    exec (.config u) s = .next (s.raiseFatal .configMidLine) :=
  checked_some (if_pos hline)

theorem exec_config {s : State} (u : ConfigUpdate) (hline : s.lineActive = false) :
    exec (.config u) s = .next (s.configure u) :=
  checked_none (if_neg (by simp [hline]))

/-- The table is kept where the record names neither of the two fields that it depends on (R231). -/
theorem configure_eq (s : State) (u : ConfigUpdate) :
    s.configure u = { s with
      config := updateConfig s.config u
      lut := if u.monitor = none ∧ u.lut = none then s.lut
        else lutTable (updateConfig s.config u).lut (updateConfig s.config u).monitor } := by
  unfold State.configure
  cases u.monitor <;> cases u.lut <;> rfl

/-- A field that the record names takes its value. -/
theorem getD_of_named {α : Type} {o : Option α} {d x : α} (h : o = some x) : o.getD d = x := by
  rw [h, Option.getD_some]

/-- A field that the record does not name keeps its value. -/
theorem getD_of_unnamed {α : Type} {o : Option α} {d : α} (h : o = none) : o.getD d = d := by
  rw [h, Option.getD_none]

/-- Settles O59, field by field of the updated configuration. -/
theorem configChangesTheNamedFields : Obligations.ConfigChangesTheNamedFields := by
  refine fun s u => ⟨exec_config_error u, fun hline => ⟨updateConfig s.config u, ?_, ?_⟩⟩
  · rw [exec_config u hline, configure_eq]
  · exact ⟨fun _ => getD_of_named, getD_of_unnamed, fun _ => getD_of_named, getD_of_unnamed,
      fun _ => getD_of_named, getD_of_unnamed, fun _ => getD_of_named, getD_of_unnamed,
      fun _ => getD_of_named, getD_of_unnamed, fun _ => getD_of_named, getD_of_unnamed,
      fun _ => getD_of_named, getD_of_unnamed, fun _ => getD_of_named, getD_of_unnamed,
      fun _ => getD_of_named, getD_of_unnamed⟩

end Sys2Proof.Machine
end

section
/-! The causes of the fatal errors in their order (spec/60_exceptions.md R246, R247), and the obligation
O9 about them. -/

namespace Sys2Proof.Machine

/-! ## The check that comes before the effect of an operation -/

/-- The check of the operations that begin with `WritePre(px)`: the preamble, then the room in the
queues that the operation inserts into (R67, R233). -/
def State.accessCheck (s : State) (i : Instr) (px : Int) : Option FatalKind :=
  (writePre s px).or (overflowCheck s.par.changeCap (s.targetQueues i))

/-- The check of the operations that do not begin with `WritePre(px)` (R226 to R229, R231). -/
def State.controlCheck (s : State) : Instr → Option FatalKind
  | .bof _ => if s.frameActive || s.lineActive then some .sequenceError else none
  | .bol _ _ _ =>
    if !s.frameActive || s.lineActive then some .sequenceError
    else if s.queuesEmpty then none else some .queueNotEmpty
  | .eol vpos => if !s.lineActive || vpos != s.curVpos then some .sequenceError else none
  | .eof => if !s.frameActive || s.lineActive then some .sequenceError else none
  | .config _ => if s.lineActive then some .configMidLine else none
  | _ => none

/-- The check of an operation, which names the error it raises. `exec_runsCheck` ties it to `exec`. -/
def State.check (s : State) (i : Instr) : Option FatalKind :=
  match preamblePx s.par.chip i with
  | some px => s.accessCheck i px
  | none => s.controlCheck i

theorem check_of_preamble {s : State} {i : Instr} {px : Int} (h : preamblePx s.par.chip i = some px) :
    s.check i = s.accessCheck i px := by
  rw [State.check, h]

theorem check_of_no_preamble {s : State} {i : Instr} (h : preamblePx s.par.chip i = none) :
    s.check i = s.controlCheck i := by
  rw [State.check, h]

/-- An operation that inserts into no queue runs the preamble alone. -/
theorem accessCheck_of_no_queue {s : State} {i : Instr} (px : Int) (h : s.targetQueues i = []) :
    s.accessCheck i px = writePre s px := by
  rw [State.accessCheck, h, overflowCheck_eq_none.2 (by simp), Option.or_none]

/-! ## Every operation runs its check, then its effect -/

/-- `r` is the result of an operation with this check, and an effect that raises no error. -/
def RunsCheck (check : Option FatalKind) (s : State) (r : Result) : Prop :=
  ∃ u, r = checked check s u ∧ u.fatal = none

theorem RunsCheck.of_checked {check : Option FatalKind} {s u : State} (h : u.fatal = none) :
    RunsCheck check s (checked check s u) := ⟨u, rfl, h⟩

theorem RunsCheck.of_next {s u : State} (h : u.fatal = none) : RunsCheck none s (.next u) := ⟨u, rfl, h⟩

/-- A write that is not queued runs the preamble alone. -/
theorem RunsCheck.of_writePre {s u : State} {i : Instr} {px : Int} (hi : s.targetQueues i = [])
    (h : u.fatal = none) : RunsCheck (s.accessCheck i px) s (checked (writePre s px) s u) :=
  ⟨u, by rw [accessCheck_of_no_queue px hi], h⟩

/-- `BPLCON3` has no preamble on OCS, where it is ignored (R193). -/
theorem exec_wBplcon3_runsCheck {s : State} (v : Word) (px : Int) (h : s.fatal = none) :
    RunsCheck (s.check (.wBplcon3 v px)) s (exec (.wBplcon3 v px) s) := by
  cases hchip : s.par.chip with
  | ocs =>
    have hno : preamblePx s.par.chip (.wBplcon3 v px) = none := if_neg (by simp [hchip])
    rw [check_of_no_preamble hno, execWBplcon3_ocs hchip]
    exact .of_next h
  | ecs =>
    have hpre : preamblePx s.par.chip (.wBplcon3 v px) = some px := if_pos hchip
    rw [check_of_preamble hpre, execWBplcon3_ecs hchip]
    exact .of_checked h

/-- In a running machine an operation raises the error of its check or has an effect that raises none
(R247, R252). -/
theorem exec_runsCheck (i : Instr) {s : State} (h : s.fatal = none) :
    RunsCheck (s.check i) s (exec i s) := by
  cases i with
  | wClxcon | wBplcon1 | wBpl2dat | wBpl3dat | wBpl4dat | wBpl5dat | wBpl6dat =>
    exact .of_writePre rfl h
  | wBpl1dat => exact .of_writePre rfl ((loadAndDraw_fatal ..).trans h)
  | wBplcon0 | wBplcon2 => exact .of_checked ((logDiagIf_fatal ..).trans h)
  | wBplcon3 v px => exact exec_wBplcon3_runsCheck v px h
  | bof | bol | config => exact .of_checked h
  | eol => exact .of_checked ((endLine_fatal s).trans h)
  | eof => exact .of_checked ((rotate_fatal s).trans h)
  | wClxdat | wOther | rClxdat | rOther => exact .of_next h
  | reset => exact .of_next (afterReset_fatal s)
  | stable offset =>
    obtain ⟨r, hr⟩ := execStable_responds offset s
    exact ⟨_, hr, h⟩
  | _ => exact .of_checked h

/-- Where the effect raises no error, the error of the state after is that of the check. -/
theorem RunsCheck.raises_iff {check : Option FatalKind} {s : State} {r : Result} (h : RunsCheck check s r)
    (kind : FatalKind) : (∃ t, r = .next t ∧ t.fatal = some kind) ↔ check = some kind := by
  obtain ⟨u, rfl, hu⟩ := h
  constructor
  · rintro ⟨t, ht, hfatal⟩
    obtain ⟨-, rfl⟩ | ⟨raised, hraised, rfl⟩ := checked_next ht
    · simp [hu] at hfatal
    · rwa [hraised, ← raiseFatal_fatal]
  · exact fun hcheck => ⟨_, checked_some hcheck, raiseFatal_fatal s kind⟩

/-! ## The check fails for the causes of R246 -/

theorem writePre_eq_some_iff {s : State} {px : Int} {kind : FatalKind} :
    writePre s px = some kind ↔
      (s.lineActive = false ∧ kind = .pokeOutsideLine) ∨
      (s.lineActive = true ∧ px < 0 ∧ kind = .negativeTriggerPixel) := by
  cases hline : s.lineActive with
  | false => simp [writePre_outside hline, eq_comm]
  | true =>
    obtain hpx | hpx := lt_or_ge px 0
    · simp [writePre_negative hline hpx, hpx, eq_comm]
    · simp [writePre_inside hline hpx, hpx]

theorem overflowCheck_eq_some_iff {cap : Nat} {qs : List ChangeQueue} {kind : FatalKind} :
    overflowCheck cap qs = some kind ↔ (∃ q ∈ qs, q.length = cap) ∧ kind = .queueOverflow := by
  rw [overflowCheck, Option.ite_none_right_eq_some, Option.some_inj, eq_comm (a := kind)]
  simp [queueFull]

/-- An operation that begins with the preamble raises the errors of the preamble and that of a full
queue, and none of the control operations' (R246). -/
theorem raises_of_preamble {s : State} {i : Instr} {px : Int} {kind : FatalKind}
    (h : preamblePx s.par.chip i = some px) : s.raises i kind ↔
      ((s.lineActive = false ∧ kind = .pokeOutsideLine) ∨
        (s.lineActive = true ∧ px < 0 ∧ kind = .negativeTriggerPixel)) ∨
      ((s.lineActive = true ∧ 0 ≤ px) ∧
        (∃ q ∈ s.targetQueues i, q.length = s.par.changeCap) ∧ kind = .queueOverflow) := by
  cases kind with
  | pokeOutsideLine | negativeTriggerPixel | queueOverflow => simp [State.raises, h, and_assoc]
  | queueNotEmpty =>
    refine iff_of_false ?_ (by simp)
    rintro ⟨vpos, v, d, rfl, -⟩
    cases h
  | sequenceError =>
    refine iff_of_false ?_ (by simp)
    rintro (⟨⟨lof, rfl⟩, -⟩ | ⟨⟨vpos, v, d, rfl⟩, -⟩ | ⟨vpos, rfl, -⟩ | ⟨rfl, -⟩) <;> cases h
  | configMidLine =>
    refine iff_of_false ?_ (by simp)
    rintro ⟨⟨u, rfl⟩, -⟩
    cases h

/-- The errors of the preamble come before that of a full queue (R247). -/
theorem accessCheck_eq_some_iff {s : State} {i : Instr} {px : Int} {kind : FatalKind}
    (h : preamblePx s.par.chip i = some px) : s.accessCheck i px = some kind ↔ s.raises i kind := by
  rw [State.accessCheck, Option.or_eq_some_iff, writePre_eq_some_iff, writePre_eq_none,
    overflowCheck_eq_some_iff, raises_of_preamble h]

/-- BOL checks the sequence before the queues (R227, R247). -/
theorem bolCheck_eq_some_iff {s : State} {kind : FatalKind} :
    (if !s.frameActive || s.lineActive then some .sequenceError
      else if s.queuesEmpty then none else some .queueNotEmpty) = some kind ↔
    ((s.frameActive = false ∨ s.lineActive = true) ∧ kind = .sequenceError) ∨
      (s.frameActive = true ∧ s.lineActive = false ∧ (∃ q ∈ s.queues, q ≠ []) ∧
        kind = .queueNotEmpty) := by
  have hqueues : (∃ q ∈ s.queues, q ≠ []) ↔ ¬ s.queuesEmpty = true := by simp [queuesEmpty_iff]
  rw [hqueues]
  by_cases hsequence : s.frameActive = false ∨ s.lineActive = true
  · rw [if_pos (by simpa using hsequence)]
    grind
  · obtain ⟨hframe, hline⟩ : s.frameActive = true ∧ s.lineActive = false := by simpa using hsequence
    rw [bolCheck_inSequence hframe hline]
    cases s.queuesEmpty <;> simp [hframe, hline, eq_comm]

/-- Each operation that begins or ends a frame or a line, and CONFIG, has its own check; the others
without the preamble have none. -/
theorem controlCheck_eq_some_iff {s : State} {i : Instr} {kind : FatalKind}
    (h : preamblePx s.par.chip i = none) : s.controlCheck i = some kind ↔ s.raises i kind := by
  cases i with
  | bof | eol | eof | config =>
    refine Option.ite_none_right_eq_some.trans ?_
    cases kind <;> simp [State.raises, preamblePx]
  | bol =>
    refine bolCheck_eq_some_iff.trans ?_
    cases kind <;> simp [State.raises, preamblePx]
  | wBplcon3 | wClxdat | wOther | rClxdat | rOther | reset | stable =>
    refine iff_of_false (Option.some_ne_none kind).symm ?_
    cases kind <;> simp [State.raises, h]
  | _ => cases h

theorem check_eq_some_iff {s : State} {i : Instr} {kind : FatalKind} :
    s.check i = some kind ↔ s.raises i kind := by
  cases h : preamblePx s.par.chip i with
  | some px => rw [check_of_preamble h, accessCheck_eq_some_iff h]
  | none => rw [check_of_no_preamble h, controlCheck_eq_some_iff h]

/-- Settles O9: an operation raises the error of its check, and the check fails for the causes of R246
in the order of R247. -/
theorem fatalErrorsHaveTheirCauses : Obligations.FatalErrorsHaveTheirCauses :=
  fun i _ kind h => ((exec_runsCheck i h).raises_iff kind).trans check_eq_some_iff

end Sys2Proof.Machine
end

section
/-! The reset state meets the invariants that the steps keep (spec/70_reset_and_hazards.md R265): the base
case of every induction over a run. -/

namespace Sys2Proof.Machine

/-- No register change waits after a reset (R66). -/
theorem reset_queues : ∀ q ∈ State.reset.queues, q = [] := by
  simp [State.reset, State.queues]

theorem reset_linesWf : State.reset.linesWf :=
  linesWf_outside rfl (queuesEmpty_iff.2 reset_queues)

/-- The reference parameters are in the ranges of R8. -/
theorem reset_paramsWf : paramsWf State.reset.par :=
  ⟨by decide, by decide⟩

theorem reset_storeWf : State.reset.storeWf := by
  obtain ⟨hnFb, -⟩ := reset_paramsWf
  exact ⟨List.length_replicate, lt_of_lt_of_le Nat.zero_lt_two hnFb, reset_memory_wf⟩

theorem reset_wf : State.reset.wf where
  par := reset_paramsWf
  queues := queuesWf_of_empty reset_queues
  boundary := reset_linesWf.1
  sequence := reset_linesWf.2
  pipeline := ⟨rfl, rfl, rfl⟩
  buffers := cleared_hasLength _
  depth := tagsLegal_cleared _
  lut := rfl
  store := reset_storeWf

/-- The three replayed copies of `BPLCON0` are 0, and no record waits to change one (R24, log 11). -/
theorem reset_copiesWf : State.reset.copiesWf :=
  ⟨rfl, rfl, rfl, rfl⟩

/-- Settles O20: the queues are empty and no line is active, the scanline buffers are cleared, and the
table and the frame buffers are made for the configuration and the parameters of the reset state. -/
theorem resetStateIsWellFormed : Obligations.ResetStateIsWellFormed :=
  ⟨reset_wf, reset_copiesWf⟩

end Sys2Proof.Machine
end
